-- ==== Sys2Proof/Word.lean ====
section
/-! DEFINITION. The word widths the spec names (00_scope.md R8, R10, R11): unsigned values of 16, 32 and 64 bits,
and the plainest operation on them, b2n. -/

namespace Sys2Proof

/-- A 16-bit unsigned value: the window field and IMM16 (00_scope.md R8, 30_encoding.md R82). -/
abbrev U16 := BitVec 16

/-- A 32-bit unsigned value: a sequence number, a command word, a 32-bit register (00_scope.md R8). -/
abbrev U32 := BitVec 32

/-- A 64-bit unsigned value: an absolute index, a register slot (00_scope.md R8, 20_memory.md R61). -/
abbrev U64 := BitVec 64

/-- `b2n(f)`: 1 if `f` is true and 0 otherwise (00_scope.md R11). -/
def b2n (f : Bool) : Nat := if f then 1 else 0

end Sys2Proof
end

