-- ==== Sys2Proof/Syntax.lean ====
section
/-! DEFINITION. The commands of the block, one constructor for each row of the opcode map (30_encoding.md R85), the
registers of its window (20_memory.md R62), a host access (00_scope.md R13) and the host's assembler lines
(30_encoding.md R88). -/

namespace Sys2Proof

/-- A command of the block. The operands are the fields of the command word that are free in its row of the opcode
map (30_encoding.md R81, R82, R85); the other operands are read from ARG0-ARG2 (R83). -/
inductive Instr where
  /-- NOP (44_connection.md R182). -/
  | nop
  /-- WRAP (40_seqspace.md R104). -/
  | wrap
  /-- UNWRAP (40_seqspace.md R105). -/
  | unwrap
  /-- SEGLEN with FLAGS.S and FLAGS.F (40_seqspace.md R106). -/
  | seglen (syn fin : Bool)
  /-- TMR_START (41_timer.md R127). -/
  | tmrStart
  /-- TMR_STOP (41_timer.md R128). -/
  | tmrStop
  /-- TMR_RESET (41_timer.md R129). -/
  | tmrReset
  /-- TMR_DOUBLE (41_timer.md R130). -/
  | tmrDouble
  /-- TMR_TICK (41_timer.md R131). -/
  | tmrTick
  /-- TMR_QUERY (41_timer.md R132). -/
  | tmrQuery
  /-- SEG_RX with FLAGS.S, F, R, A and IMM16, the segment's window (44_connection.md R183). -/
  | segRx (syn fin rst ack : Bool) (win : U16)
  /-- SEG_END (44_connection.md R184). -/
  | segEnd
  /-- RX_STATUS with FLAGS.E (43_receiver_feedback.md R163). -/
  | rxStatus (ended : Bool)
  /-- TX_SENT with FLAGS.S and FLAGS.F (42_sender_tracking.md R141). -/
  | txSent (syn fin : Bool)
  /-- TX_RETIRE (42_sender_tracking.md R142). -/
  | txRetire
  /-- TX_EOF (42_sender_tracking.md R143). -/
  | txEof
  /-- TICK (44_connection.md R187). -/
  | tick
  /-- EVAL (44_connection.md R188). -/
  | eval
  /-- CLOSE (44_connection.md R189). -/
  | close
  /-- STAMP (43_receiver_feedback.md R164). -/
  | stamp
  /-- INIT (44_connection.md R190). -/
  | init
  deriving DecidableEq, Repr

/-- The names of the opcode map's rows (30_encoding.md R85), without operands. -/
inductive Mnemonic where
  | nop | wrap | unwrap | seglen
  | tmrStart | tmrStop | tmrReset | tmrDouble | tmrTick | tmrQuery
  | segRx | segEnd | rxStatus | txSent | txRetire | txEof
  | tick | eval | close | stamp | init
  deriving DecidableEq, Repr

/-- The FLAGS letters (30_encoding.md R81). -/
inductive Flag where
  | S | F | R | A | E
  deriving DecidableEq, Repr

/-- The registers of the window (20_memory.md R62). -/
inductive Reg where
  | cmd | arg0 | arg1 | arg2 | res0 | res1 | res2 | status | conn
  | cfgRtoInit | cfgMaxRetx | cfgCapacity | cfgTxIsn
  | txNext | txAcked | txInflight | txWindow | retxCount
  | tmrRto | tmrElapsed | timeSinceRx
  | rxIsn | rxAssembled | rxBuffered | seglSeqno | seglLen
  deriving DecidableEq, Repr

/-- A host access to the window (00_scope.md R13): its offset from BASE (the block decodes only offset bits 7:0,
20_memory.md R61), its width in bytes, and the value of a write. Only width 8 at a multiple of 8 is defined (R64);
the others are here so that the model can say that it refuses them. -/
inductive HostAccess where
  /-- `MemRead(BASE + off, width)`. -/
  | read (off : BitVec 8) (width : Nat)
  /-- `MemWrite(BASE + off, width, value)`. -/
  | write (off : BitVec 8) (width : Nat) (value : U64)
  deriving DecidableEq, Repr

/-- A command as the assembler writes it: `MNEMONIC[.FLAGS] [win=N]` (30_encoding.md R88). -/
structure AsmCmd where
  mnemonic : Mnemonic
  flags : List Flag
  win : Option Nat
  deriving DecidableEq, Repr

/-- A line of a host program (30_encoding.md R88). -/
inductive AsmLine where
  /-- `wr REG, value`. -/
  | wr (r : Reg) (value : U64)
  /-- `rd REG`. -/
  | rd (r : Reg)
  /-- `cmd MNEMONIC[.FLAGS] [win=N]`. -/
  | cmd (c : AsmCmd)
  deriving DecidableEq, Repr

end Sys2Proof
end

