-- ==== Sys2Proof/WellFormed.lean ====
section
/-! DEFINITION. The checks on terms. A term of Instr needs none: its fields are exactly the free bits of its row, and
"the FLAGS combinations inside a legal word are all legal encodings" (30_encoding.md R87). What can be ill-formed is
a host access (20_memory.md R64) and an assembler command (30_encoding.md R88). -/

namespace Sys2Proof

/-- A defined access: 8 bytes at an offset that is a multiple of 8 (20_memory.md R64). -/
def HostAccess.wellFormed : HostAccess → Bool
  | .read off width => width == 8 && off.toNat % 8 == 0
  | .write off width _ => width == 8 && off.toNat % 8 == 0

/-- The flag letters that are free in a mnemonic's row, in the order S F R A E (30_encoding.md R81, R85). -/
def Mnemonic.freeFlags : Mnemonic → List Flag
  | .seglen => [.S, .F]
  | .segRx => [.S, .F, .R, .A]
  | .rxStatus => [.E]
  | .txSent => [.S, .F]
  | .nop | .wrap | .unwrap => []
  | .tmrStart | .tmrStop | .tmrReset | .tmrDouble | .tmrTick | .tmrQuery => []
  | .segEnd | .txRetire | .txEof | .tick | .eval | .close | .stamp | .init => []

/-- Whether IMM16 is free in a mnemonic's row: SEG_RX only (30_encoding.md R82). -/
def Mnemonic.hasWindow (m : Mnemonic) : Bool := m == .segRx

/-- A legal assembler command (30_encoding.md R88): its letters are a subset of the row's free letters, in the
order S F R A E, and `win=N` stands only on SEG_RX with `0 ≤ N ≤ 65535`. -/
def AsmCmd.wellFormed (c : AsmCmd) : Bool :=
  c.flags.isSublist c.mnemonic.freeFlags &&
    match c.win with
    | none => true
    | some n => c.mnemonic.hasWindow && decide (n ≤ 65535)

/-- A legal line: only a command can be ill-formed. -/
def AsmLine.wellFormed : AsmLine → Bool
  | .wr _ _ => true
  | .rd _ => true
  | .cmd c => c.wellFormed

end Sys2Proof
end

