-- ==== Sys2Proof/Decode.lean ====
section
/-! DEFINITION. Decoding of a command word (30_encoding.md R80-R87), total, rejecting by name; the opcode map with its
masks (R85); and after them the encoder, written from the same patterns. -/

namespace Sys2Proof

/-- Why a word selects no row of the opcode map (30_encoding.md R86). Both raise EOPC. -/
inductive DecodeError where
  /-- The OP value is in no row: 0x04-0x0F, 0x16-0x1F, 0x2B-0xFF. -/
  | reservedOp
  /-- The OP value has a row, but a field its command does not use is not zero. -/
  | unusedField
  deriving DecidableEq, Repr

/-- OP, bits 7:0 (30_encoding.md R80). -/
def opField (w : U32) : BitVec 8 := w.extractLsb' 0 8

/-- IMM16, bits 31:16 (30_encoding.md R80). -/
def imm16Field (w : U32) : U16 := w.extractLsb' 16 16

/-- The bit of a FLAGS letter (30_encoding.md R81). -/
def Flag.bit : Flag → Nat
  | .S => 8
  | .F => 9
  | .R => 10
  | .A => 11
  | .E => 12

/-- A FLAGS letter of a word. -/
def flagField (w : U32) (f : Flag) : Bool := w.getLsbD f.bit

/-- The OP value of each row (30_encoding.md R85). -/
def Mnemonic.op : Mnemonic → BitVec 8
  | .nop => 0x00
  | .wrap => 0x01
  | .unwrap => 0x02
  | .seglen => 0x03
  | .tmrStart => 0x10
  | .tmrStop => 0x11
  | .tmrReset => 0x12
  | .tmrDouble => 0x13
  | .tmrTick => 0x14
  | .tmrQuery => 0x15
  | .segRx => 0x20
  | .segEnd => 0x21
  | .rxStatus => 0x22
  | .txSent => 0x23
  | .txRetire => 0x24
  | .txEof => 0x25
  | .tick => 0x26
  | .eval => 0x27
  | .close => 0x28
  | .stamp => 0x29
  | .init => 0x2A

/-- The rows of the opcode map, in its order (30_encoding.md R85). -/
def allMnemonics : List Mnemonic :=
  [.nop, .wrap, .unwrap, .seglen, .tmrStart, .tmrStop, .tmrReset, .tmrDouble, .tmrTick, .tmrQuery,
   .segRx, .segEnd, .rxStatus, .txSent, .txRetire, .txEof, .tick, .eval, .close, .stamp, .init]

/-- The row an OP value selects, none where the value is reserved (30_encoding.md R86). -/
def rowOfOp (op : BitVec 8) : Option Mnemonic := allMnemonics.find? (fun m => m.op == op)

/-- The bits a row requires to be zero, OP apart: the reserved FLAGS bits, the FLAGS bits it does not use, and IMM16
for every command but SEG_RX (30_encoding.md R84). -/
def Mnemonic.unusedBits : Mnemonic → U32
  | .seglen | .txSent => 0xFFFFFC00
  | .segRx => 0x0000F000
  | .rxStatus => 0xFFFFEF00
  | .nop | .wrap | .unwrap => 0xFFFFFF00
  | .tmrStart | .tmrStop | .tmrReset | .tmrDouble | .tmrTick | .tmrQuery => 0xFFFFFF00
  | .segEnd | .txRetire | .txEof | .tick | .eval | .close | .stamp | .init => 0xFFFFFF00

/-- The command of a row, with its fields read from the word (30_encoding.md R81, R82, R85). -/
def Mnemonic.command (m : Mnemonic) (w : U32) : Instr :=
  match m with
  | .nop => .nop
  | .wrap => .wrap
  | .unwrap => .unwrap
  | .seglen => .seglen (flagField w .S) (flagField w .F)
  | .tmrStart => .tmrStart
  | .tmrStop => .tmrStop
  | .tmrReset => .tmrReset
  | .tmrDouble => .tmrDouble
  | .tmrTick => .tmrTick
  | .tmrQuery => .tmrQuery
  | .segRx => .segRx (flagField w .S) (flagField w .F) (flagField w .R) (flagField w .A) (imm16Field w)
  | .segEnd => .segEnd
  | .rxStatus => .rxStatus (flagField w .E)
  | .txSent => .txSent (flagField w .S) (flagField w .F)
  | .txRetire => .txRetire
  | .txEof => .txEof
  | .tick => .tick
  | .eval => .eval
  | .close => .close
  | .stamp => .stamp
  | .init => .init

/-- The decoder (30_encoding.md R84): OP selects the row, and every bit outside OP and the row's own fields must be
zero. -/
def decode (w : U32) : Except DecodeError Instr :=
  match rowOfOp (opField w) with
  | none => .error .reservedOp
  | some m => if w &&& m.unusedBits = 0 then .ok (m.command w) else .error .unusedField

/-- A row of the opcode map: match and mask as 30_encoding.md R85 prints them. -/
structure OpcodeRow where
  mnemonic : Mnemonic
  pattern : U32
  mask : U32
  deriving DecidableEq, Repr

/-- A row selects a word: `(w & mask) = match` (30_encoding.md R84). -/
def OpcodeRow.selects (r : OpcodeRow) (w : U32) : Bool := w &&& r.mask == r.pattern

/-- The row of a mnemonic (30_encoding.md R85). -/
def Mnemonic.row : Mnemonic → OpcodeRow
  | .nop => ⟨.nop, 0x00000000, 0xFFFFFFFF⟩
  | .wrap => ⟨.wrap, 0x00000001, 0xFFFFFFFF⟩
  | .unwrap => ⟨.unwrap, 0x00000002, 0xFFFFFFFF⟩
  | .seglen => ⟨.seglen, 0x00000003, 0xFFFFFCFF⟩
  | .tmrStart => ⟨.tmrStart, 0x00000010, 0xFFFFFFFF⟩
  | .tmrStop => ⟨.tmrStop, 0x00000011, 0xFFFFFFFF⟩
  | .tmrReset => ⟨.tmrReset, 0x00000012, 0xFFFFFFFF⟩
  | .tmrDouble => ⟨.tmrDouble, 0x00000013, 0xFFFFFFFF⟩
  | .tmrTick => ⟨.tmrTick, 0x00000014, 0xFFFFFFFF⟩
  | .tmrQuery => ⟨.tmrQuery, 0x00000015, 0xFFFFFFFF⟩
  | .segRx => ⟨.segRx, 0x00000020, 0x0000F0FF⟩
  | .segEnd => ⟨.segEnd, 0x00000021, 0xFFFFFFFF⟩
  | .rxStatus => ⟨.rxStatus, 0x00000022, 0xFFFFEFFF⟩
  | .txSent => ⟨.txSent, 0x00000023, 0xFFFFFCFF⟩
  | .txRetire => ⟨.txRetire, 0x00000024, 0xFFFFFFFF⟩
  | .txEof => ⟨.txEof, 0x00000025, 0xFFFFFFFF⟩
  | .tick => ⟨.tick, 0x00000026, 0xFFFFFFFF⟩
  | .eval => ⟨.eval, 0x00000027, 0xFFFFFFFF⟩
  | .close => ⟨.close, 0x00000028, 0xFFFFFFFF⟩
  | .stamp => ⟨.stamp, 0x00000029, 0xFFFFFFFF⟩
  | .init => ⟨.init, 0x0000002A, 0xFFFFFFFF⟩

/-- The mnemonic of an instruction. -/
def Instr.mnemonic : Instr → Mnemonic
  | .nop => .nop
  | .wrap => .wrap
  | .unwrap => .unwrap
  | .seglen _ _ => .seglen
  | .tmrStart => .tmrStart
  | .tmrStop => .tmrStop
  | .tmrReset => .tmrReset
  | .tmrDouble => .tmrDouble
  | .tmrTick => .tmrTick
  | .tmrQuery => .tmrQuery
  | .segRx _ _ _ _ _ => .segRx
  | .segEnd => .segEnd
  | .rxStatus _ => .rxStatus
  | .txSent _ _ => .txSent
  | .txRetire => .txRetire
  | .txEof => .txEof
  | .tick => .tick
  | .eval => .eval
  | .close => .close
  | .stamp => .stamp
  | .init => .init

/-- One FLAGS bit of a pattern string. -/
def flagBit (f : Bool) : BitVec 1 := BitVec.ofBool f

/-- A word whose only non-zero field is OP. -/
def opOnly (op : BitVec 8) : U32 := (0 : BitVec 24) ++ op

/-- The encoder: the pattern strings of 30_encoding.md R85, bit 31 first. -/
def encode : Instr → U32
  | .nop => opOnly 0x00
  | .wrap => opOnly 0x01
  | .unwrap => opOnly 0x02
  | .seglen syn fin => (0 : BitVec 22) ++ flagBit fin ++ flagBit syn ++ (0x03 : BitVec 8)
  | .tmrStart => opOnly 0x10
  | .tmrStop => opOnly 0x11
  | .tmrReset => opOnly 0x12
  | .tmrDouble => opOnly 0x13
  | .tmrTick => opOnly 0x14
  | .tmrQuery => opOnly 0x15
  | .segRx syn fin rst ack win =>
    win ++ (0 : BitVec 4) ++ flagBit ack ++ flagBit rst ++ flagBit fin ++ flagBit syn ++ (0x20 : BitVec 8)
  | .segEnd => opOnly 0x21
  | .rxStatus ended => (0 : BitVec 19) ++ flagBit ended ++ (0 : BitVec 4) ++ (0x22 : BitVec 8)
  | .txSent syn fin => (0 : BitVec 22) ++ flagBit fin ++ flagBit syn ++ (0x23 : BitVec 8)
  | .txRetire => opOnly 0x24
  | .txEof => opOnly 0x25
  | .tick => opOnly 0x26
  | .eval => opOnly 0x27
  | .close => opOnly 0x28
  | .stamp => opOnly 0x29
  | .init => opOnly 0x2A

/-- The instruction a word decodes to, or none where it is rejected. -/
def decodeOption (w : U32) : Option Instr :=
  match decode w with
  | .ok i => some i
  | .error _ => none

/-- The command word of a table row's bits: the low `nbits` bits of `w`, every bit above them zero. The block's one
format is 32 bits (30_encoding.md R80). -/
def tableWord (nbits w : Nat) : U32 := BitVec.ofNat 32 (w % 2 ^ nbits)

/-- What the decoder reads from the word of a table row. -/
def decodeTableWord (nbits w : Nat) : Option Instr := decodeOption (tableWord nbits w)

end Sys2Proof
end

