-- ==== Sys2Proof/Config.lean ====
section
/-! DEFINITION. What an implementation fixes and the spec leaves open: the OPEN parameters of 00_scope.md R7.
They are constants without a body, so every statement holds for every value of them (log 1, log 6). -/

namespace Sys2Proof

/-- The parameters that are reset values of registers (00_scope.md R7). -/
structure Params where
  /-- `P_RTO_INIT`: reset value of CFG_RTO_INIT and, zero-extended, of TMR_RTO. -/
  rtoInit : U32
  /-- `P_MAX_RETX`: reset value of CFG_MAX_RETX. -/
  maxRetx : U32
  /-- `P_CAPACITY`: reset value of CFG_CAPACITY. -/
  capacity : U64
  /-- `P_TX_ISN`: reset value of CFG_TX_ISN. -/
  txIsn : U32
  deriving DecidableEq, Repr

/-- `P_RTO_INIT`, OPEN (00_scope.md R7). -/
opaque Config.pRtoInit : U32

/-- `P_MAX_RETX`, OPEN (00_scope.md R7). -/
opaque Config.pMaxRetx : U32

/-- `P_CAPACITY`, OPEN (00_scope.md R7). -/
opaque Config.pCapacity : U64

/-- `P_TX_ISN`, OPEN (00_scope.md R7). -/
opaque Config.pTxIsn : U32

/-- `BASE / 256`, OPEN: BASE is a multiple of 256 (00_scope.md R7, 20_memory.md R61). -/
opaque Config.basePage : Nat

/-- `BASE`: the byte address of the register window in the host's address space (20_memory.md R61). -/
def Config.base : Nat := 256 * Config.basePage

/-- The parameters of this implementation, whatever they are. -/
def Config.params : Params :=
  { rtoInit := Config.pRtoInit, maxRetx := Config.pMaxRetx
    capacity := Config.pCapacity, txIsn := Config.pTxIsn }

end Sys2Proof
end

