-- ==== Sys2Proof/Machine/State.lean ====
section
/-! DEFINITION. The state of the block, plain data: every register of 10_state.md, and the host's side of the register
window (hostQueue, readData). The reset state. The reasons a step can stop. -/

namespace Sys2Proof.Machine

/-- The completion codes of STATUS.CODE (60_exceptions.md R220); "values 5 to 255 are never written". -/
inductive Code where
  /-- 0: the command completed. -/
  | ok
  /-- 1: the command word selects no row of the opcode map. -/
  | eopc
  /-- 2: the operands or the host's report are inconsistent with the block's state. -/
  | einval
  /-- 3: the command needs a live connection and ACTIVE = 0. -/
  | einactive
  /-- 4: the command breaks the two-phase inbound-segment order. -/
  | eseq
  deriving DecidableEq, Repr

/-- The request bits of STATUS, bits 8 to 21 (10_state.md R26). -/
structure Reqs where
  retxReq : Bool := false
  rstReq : Bool := false
  flushReq : Bool := false
  emptyReq : Bool := false
  connectReq : Bool := false
  fwd : Bool := false
  last : Bool := false
  ackv : Bool := false
  pend : Bool := false
  expired : Bool := false
  stampv : Bool := false
  streamErr : Bool := false
  closedNow : Bool := false
  keepalive : Bool := false
  deriving DecidableEq, Repr

/-- STATUS (10_state.md R26) without its STATE field, which is "not stored" (R35, log 4). -/
structure Status where
  code : Code := .ok
  req : Reqs := {}
  deriving DecidableEq, Repr

/-- The flags of CONN (10_state.md R27) without its STATE field, which is "not stored" (R35). -/
structure Conn where
  active : Bool
  linger : Bool
  err : Bool
  txSynSent : Bool
  txFinSent : Bool
  txEof : Bool
  rxSynSeen : Bool
  rxEnded : Bool
  tmrRunning : Bool
  segPend : Bool
  txd : Bool
  deriving DecidableEq, Repr

/-- CONN after power-on reset and after INIT: ACTIVE 1, LINGER 1, every other field 0 (10_state.md R53,
44_connection.md R190). -/
def Conn.fresh : Conn :=
  { active := true, linger := true, err := false, txSynSent := false, txFinSent := false, txEof := false
    rxSynSeen := false, rxEnded := false, tmrRunning := false, segPend := false, txd := false }

/-- The state: the registers of 10_state.md (R20) and the model's two fields for the host's side of the window. -/
structure State where
  /-- ARG0-ARG2 (10_state.md R24). -/
  arg0 : U64
  arg1 : U64
  arg2 : U64
  /-- RES0-RES2 (10_state.md R25). -/
  res0 : U64
  res1 : U64
  res2 : U64
  /-- STATUS (10_state.md R26). -/
  status : Status
  /-- CONN (10_state.md R27). -/
  conn : Conn
  /-- CFG_RTO_INIT (10_state.md R36). -/
  cfgRtoInit : U32
  /-- CFG_MAX_RETX (10_state.md R37). -/
  cfgMaxRetx : U32
  /-- CFG_CAPACITY (10_state.md R38). -/
  cfgCapacity : U64
  /-- CFG_TX_ISN (10_state.md R39). -/
  cfgTxIsn : U32
  /-- TX_NEXT (10_state.md R40). -/
  txNext : U64
  /-- TX_ACKED (10_state.md R41). -/
  txAcked : U64
  /-- TX_INFLIGHT (10_state.md R42). -/
  txInflight : U64
  /-- TX_WINDOW (10_state.md R43). -/
  txWindow : U16
  /-- RETX_COUNT (10_state.md R44). -/
  retxCount : U32
  /-- TMR_RTO (10_state.md R45). -/
  tmrRto : U64
  /-- TMR_ELAPSED (10_state.md R46). -/
  tmrElapsed : U64
  /-- TIME_SINCE_RX (10_state.md R47). -/
  timeSinceRx : U64
  /-- RX_ISN (10_state.md R48). -/
  rxIsn : U32
  /-- RX_ASSEMBLED (10_state.md R49). -/
  rxAssembled : U64
  /-- RX_BUFFERED (10_state.md R50). -/
  rxBuffered : U64
  /-- SEGL_SEQNO (10_state.md R51). -/
  seglSeqno : U32
  /-- SEGL_LEN (10_state.md R51). -/
  seglLen : U64
  /-- The model's own: the host's accesses not yet taken, in the host's program order (20_memory.md R69, log 2). -/
  hostQueue : List HostAccess
  /-- The model's own: the value the last host read returned (20_memory.md R66, log 3). -/
  readData : U64
  deriving DecidableEq, Repr

/-- There is no fault: "No operation in this core raises a fatal fault" (60_exceptions.md, introduction), "The block
has no trap, exception entry, vector, saved state or handler" (R227). No constructor, so no step ends in one
(log 10). -/
inductive Fault where
  deriving DecidableEq, Repr

/-- Why a step is refused. -/
inductive Refusal where
  /-- Raised only by an arm of exec for a command that has no meaning yet; no arm does. Safe. -/
  | notModelled (mnemonic : String)
  /-- Raised by a host access that is not an 8-byte access at a multiple of 8: "The model refuses every other access"
  (20_memory.md R64; `P_BAD_ACCESS` is open, log 5). Safe: the model stops where hardware may go on. -/
  | badAccess (off : BitVec 8) (width : Nat)
  deriving DecidableEq, Repr

/-- The state after power-on reset for given parameters (10_state.md R53, 70_reset_and_hazards.md R250). -/
def State.resetWith (p : Params) : State :=
  { arg0 := 0, arg1 := 0, arg2 := 0, res0 := 0, res1 := 0, res2 := 0
    status := {}, conn := Conn.fresh
    cfgRtoInit := p.rtoInit, cfgMaxRetx := p.maxRetx, cfgCapacity := p.capacity, cfgTxIsn := p.txIsn
    txNext := 0, txAcked := 0, txInflight := 0, txWindow := 1, retxCount := 0
    tmrRto := p.rtoInit.setWidth 64, tmrElapsed := 0, timeSinceRx := 0
    rxIsn := 0, rxAssembled := 0, rxBuffered := 0, seglSeqno := 0, seglLen := 0
    hostQueue := [], readData := 0 }

/-- The state after power-on reset, with this implementation's parameters (10_state.md R53). The host has made no
access yet (log 2). -/
def State.reset : State := State.resetWith Config.params

/-- The one writer of STATUS. -/
def State.withStatus (s : State) (v : Status) : State := { s with status := v }

/-- The one writer of CONN's flags. -/
def State.withConn (s : State) (c : Conn) : State := { s with conn := c }

end Sys2Proof.Machine
end

