-- ==== Sys2Proof/Machine/Flags.lean ====
section
/-! DEFINITION. What is computed from the flags: the state tag (44_connection.md R181), and the words a host read of
STATUS and CONN returns (10_state.md R26, R27, R35; 60_exceptions.md R222). -/

namespace Sys2Proof.Machine

/-- The connection states of `state_tag` (10_state.md R35). -/
inductive Tag where
  | listen | synSent | synRcvd | established | finWait | linger | closed | reset
  deriving DecidableEq, Repr

/-- The encoding of STATE (10_state.md R35). -/
def Tag.value : Tag → BitVec 3
  | .listen => 0
  | .synSent => 1
  | .synRcvd => 2
  | .established => 3
  | .finWait => 4
  | .linger => 5
  | .closed => 6
  | .reset => 7

/-- "the inbound stream has ended, the own FIN is sent and acknowledged" (44_connection.md R180, R181). -/
def bothFinished (s : State) : Bool :=
  s.conn.rxEnded && s.conn.txFinSent && s.txAcked == s.txNext

/-- `state_tag()`: the first line that matches gives the tag (44_connection.md R181). -/
def stateTag (s : State) : Tag :=
  if s.conn.active = false then (if s.conn.err then .reset else .closed)
  else if bothFinished s then .linger
  else if s.conn.txFinSent || s.conn.rxEnded then .finWait
  else if s.conn.rxSynSeen && s.conn.txSynSent && decide (1 ≤ s.txAcked.toNat) then .established
  else if s.conn.rxSynSeen then .synRcvd
  else if s.conn.txSynSent then .synSent
  else .listen

/-- The value of STATUS.CODE (60_exceptions.md R220). -/
def Code.value : Code → BitVec 8
  | .ok => 0
  | .eopc => 1
  | .einval => 2
  | .einactive => 3
  | .eseq => 4

/-- Bits 21 down to 8 of STATUS (10_state.md R26), bit 21 first. -/
def Reqs.bits (r : Reqs) : BitVec 14 :=
  BitVec.ofBool r.keepalive ++ BitVec.ofBool r.closedNow ++ BitVec.ofBool r.streamErr ++
  BitVec.ofBool r.stampv ++ BitVec.ofBool r.expired ++ BitVec.ofBool r.pend ++ BitVec.ofBool r.ackv ++
  BitVec.ofBool r.last ++ BitVec.ofBool r.fwd ++ BitVec.ofBool r.connectReq ++ BitVec.ofBool r.emptyReq ++
  BitVec.ofBool r.flushReq ++ BitVec.ofBool r.rstReq ++ BitVec.ofBool r.retxReq

/-- Bits 10 down to 0 of CONN (10_state.md R27), bit 10 first. -/
def Conn.bits (c : Conn) : BitVec 11 :=
  BitVec.ofBool c.txd ++ BitVec.ofBool c.segPend ++ BitVec.ofBool c.tmrRunning ++ BitVec.ofBool c.rxEnded ++
  BitVec.ofBool c.rxSynSeen ++ BitVec.ofBool c.txEof ++ BitVec.ofBool c.txFinSent ++ BitVec.ofBool c.txSynSent ++
  BitVec.ofBool c.err ++ BitVec.ofBool c.linger ++ BitVec.ofBool c.active

/-- STATUS as a host reads it (10_state.md R26): bits 63:27 reserved, STATE 26:24, bits 23:22 reserved, the request
bits 21:8, CODE 7:0. -/
def statusWord (s : State) : U64 :=
  (0 : BitVec 37) ++ (stateTag s).value ++ (0 : BitVec 2) ++ s.status.req.bits ++ s.status.code.value

/-- CONN as a host reads it (10_state.md R27): bits 63:15 reserved, STATE 14:12, bit 11 reserved, the flags 10:0. -/
def connWord (s : State) : U64 :=
  (0 : BitVec 49) ++ (stateTag s).value ++ (0 : BitVec 1) ++ s.conn.bits

end Sys2Proof.Machine
end

