-- ==== Sys2Proof/Machine/Operands.lean ====
section
/-! DEFINITION. The operands of the commands (30_encoding.md R83): which bits of ARG0-ARG2 each command reads; every
other bit is ignored (10_state.md R24). -/

namespace Sys2Proof.Machine

/-- `v[31:0]`. -/
def low32 (v : U64) : U32 := v.extractLsb' 0 32

/-- `v[63:32]`. -/
def high32 (v : U64) : U32 := v.extractLsb' 32 32

/-- `zext_64` of a 32-bit value (00_scope.md R11). -/
def zext64 (v : U32) : U64 := v.setWidth 64

/-- WRAP's `n = ARG0[63:0]`. -/
def wrapIndex (s : State) : U64 := s.arg0

/-- WRAP's and UNWRAP's `isn = ARG1[31:0]`. -/
def convIsn (s : State) : U32 := low32 s.arg1

/-- UNWRAP's `seqno = ARG0[31:0]`. -/
def unwrapSeqno (s : State) : U32 := low32 s.arg0

/-- UNWRAP's `checkpoint = ARG2[63:0]`. -/
def unwrapCheckpoint (s : State) : U64 := s.arg2

/-- SEGLEN's and TX_SENT's `payload_len = ARG0[31:0]`. -/
def payloadLen (s : State) : U32 := low32 s.arg0

/-- TMR_TICK's and TICK's `dt = ARG0[63:0]`. -/
def tickDelta (s : State) : U64 := s.arg0

/-- SEG_RX's `seqno = ARG0[31:0]`. -/
def segSeqno (s : State) : U32 := low32 s.arg0

/-- SEG_RX's `ackno = ARG0[63:32]`. -/
def segAckno (s : State) : U32 := high32 s.arg0

/-- SEG_RX's `payload_len = ARG1[31:0]`. -/
def segPayloadLen (s : State) : U32 := low32 s.arg1

/-- RX_STATUS's `assembled = ARG0[63:0]`. -/
def rxAssembledReport (s : State) : U64 := s.arg0

/-- RX_STATUS's `buffered = ARG1[63:0]`. -/
def rxBufferedReport (s : State) : U64 := s.arg1

/-- TX_RETIRE's `n = ARG0[63:0]`. -/
def retiredLen (s : State) : U64 := s.arg0

end Sys2Proof.Machine
end

