-- ==== Sys2Proof/Machine/Ops.lean ====
section
/-! DEFINITION. The operations shared by the commands: saturating arithmetic (00_scope.md R11), the end of a command
(R14; 60_exceptions.md R221, R222), the registers of the window (20_memory.md R62, R66, R67). The hardware takes no
exception and returns from none (60_exceptions.md R227, R228): `raise Status(CODE)` is what stands in their place. -/

namespace Sys2Proof.Machine

/-- A step's outcome on this machine. -/
abbrev Out := Host.Outcome State Fault Refusal

/-- `sat_add_64(a, b)`: `min(a + b, 2^64 - 1)` computed exactly (00_scope.md R11). -/
def satAdd64 (a b : U64) : U64 := BitVec.ofNat 64 (min (a.toNat + b.toNat) (2 ^ 64 - 1))

/-- `sat_add_32(a, b)`: `min(a + b, 2^32 - 1)` computed exactly (00_scope.md R11). -/
def satAdd32 (a b : U32) : U32 := BitVec.ofNat 32 (min (a.toNat + b.toNat) (2 ^ 32 - 1))

/-- `sat_dbl_64(a)`: `min(2·a, 2^64 - 1)` computed exactly (00_scope.md R11). -/
def satDbl64 (a : U64) : U64 := BitVec.ofNat 64 (min (2 * a.toNat) (2 ^ 64 - 1))

/-- `sat_sub_64(a, b)`: `a - b` if `a ≥ b`, else 0 (00_scope.md R11). -/
def satSub64 (a b : U64) : U64 := if b.toNat ≤ a.toNat then a - b else 0

/-- A command under execution: the state its writes have left so far, and the request bits it has named. -/
structure Work where
  st : State
  req : Reqs := {}
  deriving DecidableEq, Repr

/-- The end of a completed command, `status_ok()`: STATUS is CODE = OK and the named request bits
(60_exceptions.md R222; STATE is computed when STATUS is read, 10_state.md R35). -/
def Work.complete (w : Work) : State := w.st.withStatus { code := .ok, req := w.req }

/-- `raise Status(CODE)`: STATUS is the code with no request bit, and no other state changes (00_scope.md R14,
60_exceptions.md R222, R224). -/
def State.refuse (s : State) (c : Code) : State := s.withStatus { code := c, req := {} }

/-- One command: its checks first, in their order, the first failing one giving the code; else its writes
(60_exceptions.md R221, R228: "it either makes all the writes of its rule (code OK) or none"). -/
def runCommand (check : State → Option Code) (body : State → Work) (s : State) : State :=
  match check s with
  | some c => s.refuse c
  | none => (body s).complete

/-- No checks: the command runs in every state. -/
def noCheck (_ : State) : Option Code := none

/-- Fails with `c` when `failing` holds, else goes on to the checks after it. -/
def failIf (failing : Bool) (c : Code) (rest : Option Code) : Option Code :=
  if failing then some c else rest

/-- EINACTIVE when ACTIVE = 0 (60_exceptions.md R220). -/
def needActive (s : State) (rest : Option Code) : Option Code := failIf (!s.conn.active) .einactive rest

/-- ESEQ when an inbound segment is pending (60_exceptions.md R220). -/
def needNoSegment (s : State) (rest : Option Code) : Option Code := failIf s.conn.segPend .eseq rest

/-- Unclean shutdown: ACTIVE and ERR are written together (10_state.md R30). -/
def uncleanShutdown (s : State) : State := s.withConn { s.conn with active := false, err := true }

/-- The offset of a register in the window (20_memory.md R62). -/
def regOffset : Reg → BitVec 8
  | .cmd => 0x00
  | .arg0 => 0x08
  | .arg1 => 0x10
  | .arg2 => 0x18
  | .res0 => 0x20
  | .res1 => 0x28
  | .res2 => 0x30
  | .status => 0x38
  | .conn => 0x40
  | .cfgRtoInit => 0x48
  | .cfgMaxRetx => 0x50
  | .cfgCapacity => 0x58
  | .cfgTxIsn => 0x60
  | .txNext => 0x68
  | .txAcked => 0x70
  | .txInflight => 0x78
  | .txWindow => 0x80
  | .retxCount => 0x88
  | .tmrRto => 0x90
  | .tmrElapsed => 0x98
  | .timeSinceRx => 0xA0
  | .rxIsn => 0xA8
  | .rxAssembled => 0xB0
  | .rxBuffered => 0xB8
  | .seglSeqno => 0xC0
  | .seglLen => 0xC8

/-- The registers of the window in the order of 20_memory.md R62. -/
def allRegs : List Reg :=
  [.cmd, .arg0, .arg1, .arg2, .res0, .res1, .res2, .status, .conn,
   .cfgRtoInit, .cfgMaxRetx, .cfgCapacity, .cfgTxIsn,
   .txNext, .txAcked, .txInflight, .txWindow, .retxCount,
   .tmrRto, .tmrElapsed, .timeSinceRx,
   .rxIsn, .rxAssembled, .rxBuffered, .seglSeqno, .seglLen]

/-- The register at an offset, none where the slot is reserved (20_memory.md R62, R67). -/
def regAt (off : BitVec 8) : Option Reg := allRegs.find? (fun r => regOffset r == off)

/-- The value of a register as a host reads it: a narrow register is zero-extended, CMD reads 0 (10_state.md
R23-R51). -/
def regRead (s : State) : Reg → U64
  | .cmd => 0
  | .arg0 => s.arg0
  | .arg1 => s.arg1
  | .arg2 => s.arg2
  | .res0 => s.res0
  | .res1 => s.res1
  | .res2 => s.res2
  | .status => statusWord s
  | .conn => connWord s
  | .cfgRtoInit => zext64 s.cfgRtoInit
  | .cfgMaxRetx => zext64 s.cfgMaxRetx
  | .cfgCapacity => s.cfgCapacity
  | .cfgTxIsn => zext64 s.cfgTxIsn
  | .txNext => s.txNext
  | .txAcked => s.txAcked
  | .txInflight => s.txInflight
  | .txWindow => s.txWindow.setWidth 64
  | .retxCount => zext64 s.retxCount
  | .tmrRto => s.tmrRto
  | .tmrElapsed => s.tmrElapsed
  | .timeSinceRx => s.timeSinceRx
  | .rxIsn => zext64 s.rxIsn
  | .rxAssembled => s.rxAssembled
  | .rxBuffered => s.rxBuffered
  | .seglSeqno => zext64 s.seglSeqno
  | .seglLen => s.seglLen

/-- The 8-byte value of a slot of the window; a reserved slot reads 0 (20_memory.md R66, R67). -/
def windowRead (s : State) (off : BitVec 8) : U64 :=
  match regAt off with
  | some r => regRead s r
  | none => 0

/-- The byte of the window at an offset, little-endian within its 8-byte slot (20_memory.md R65). -/
def windowByte (s : State) (off : BitVec 8) : BitVec 8 :=
  (windowRead s (off &&& 0xF8)).extractLsb' (8 * (off.toNat % 8)) 8

/-- A host write of a register other than CMD (20_memory.md R66; 10_state.md R24, R36-R39): ARG0-ARG2 and the CFG
registers store the value, CFG_TX_ISN only while TX_SYN_SENT = 0; every other register ignores the write. A write of
CMD stores nothing; the command it issues is `issueCommand` (Machine/Bus.lean). -/
def regWrite (s : State) (r : Reg) (v : U64) : State :=
  match r with
  | .arg0 => { s with arg0 := v }
  | .arg1 => { s with arg1 := v }
  | .arg2 => { s with arg2 := v }
  | .cfgRtoInit => { s with cfgRtoInit := low32 v }
  | .cfgMaxRetx => { s with cfgMaxRetx := low32 v }
  | .cfgCapacity => { s with cfgCapacity := v }
  | .cfgTxIsn => if s.conn.txSynSent then s else { s with cfgTxIsn := low32 v }
  | .cmd | .res0 | .res1 | .res2 | .status | .conn => s
  | .txNext | .txAcked | .txInflight | .txWindow | .retxCount => s
  | .tmrRto | .tmrElapsed | .timeSinceRx => s
  | .rxIsn | .rxAssembled | .rxBuffered | .seglSeqno | .seglLen => s

end Sys2Proof.Machine
end

