-- ==== Sys2Proof/Machine/SeqSpace.lean ====
section
/-! DEFINITION. The sequence-space functions (40_seqspace.md R100-R102) and the commands WRAP, UNWRAP and SEGLEN
(R104-R106). -/

namespace Sys2Proof.Machine

/-- `wrap(n, isn) = isn +_32 trunc_32(n)` (40_seqspace.md R100). -/
def wrap (n : U64) (isn : U32) : U32 := isn + low32 n

/-- `c = (hi << 32) | o`: the member of the offset's class in the checkpoint's lap (40_seqspace.md R101). -/
def lapMember (seqno isn : U32) (cp : U64) : U64 := high32 cp ++ (seqno - isn)

/-- `c > cp and hi > 0 and (c - cp) >= 2^31`, exact: the member one lap down is as near or nearer
(40_seqspace.md R101). -/
def lapBelowNearer (c cp : U64) : Bool :=
  decide (cp.toNat < c.toNat) && decide (0 < (high32 cp).toNat) && decide (0x80000000 ≤ c.toNat - cp.toNat)

/-- `c < cp and hi < 2^32 - 1 and (cp - c) > 2^31`, exact: the member one lap up is nearer (40_seqspace.md R101). -/
def lapAboveNearer (c cp : U64) : Bool :=
  decide (c.toNat < cp.toNat) && decide ((high32 cp).toNat < 0xFFFFFFFF) && decide (0x80000000 < cp.toNat - c.toNat)

/-- `unwrap(seqno, isn, cp)` (40_seqspace.md R101): the member in the checkpoint's lap, moved one lap down or up when
that member is nearer, a tie going to the smaller. The moves do not wrap, since there is a lap below or above. -/
def unwrap (seqno isn : U32) (cp : U64) : U64 :=
  let c := lapMember seqno isn cp
  if lapBelowNearer c cp then c - 0x100000000
  else if lapAboveNearer c cp then c + 0x100000000
  else c

/-- `seglen(syn, len, fin)`, exact, at most `2^32 + 1` (40_seqspace.md R102). -/
def seglen (syn : Bool) (len : U32) (fin : Bool) : U64 := BitVec.ofNat 64 (b2n syn + len.toNat + b2n fin)

/-- WRAP's writes (40_seqspace.md R104). -/
def wrapBody (s : State) : Work := { st := { s with res0 := zext64 (wrap (wrapIndex s) (convIsn s)) } }

/-- WRAP (40_seqspace.md R104). -/
def execWrap (s : State) : Out := .next (runCommand noCheck wrapBody s)

/-- UNWRAP's writes (40_seqspace.md R105). -/
def unwrapBody (s : State) : Work :=
  { st := { s with res0 := unwrap (unwrapSeqno s) (convIsn s) (unwrapCheckpoint s) } }

/-- UNWRAP (40_seqspace.md R105). -/
def execUnwrap (s : State) : Out := .next (runCommand noCheck unwrapBody s)

/-- SEGLEN's writes (40_seqspace.md R106). -/
def seglenBody (syn fin : Bool) (s : State) : Work := { st := { s with res0 := seglen syn (payloadLen s) fin } }

/-- SEGLEN (40_seqspace.md R106). -/
def execSeglen (syn fin : Bool) (s : State) : Out := .next (runCommand noCheck (seglenBody syn fin) s)

end Sys2Proof.Machine
end

