-- ==== Sys2Proof/Machine/Receiver.lean ====
section
/-! DEFINITION. The receiver's functions (43_receiver_feedback.md R160-R162, R165) and the commands RX_STATUS and STAMP
(R163, R164). -/

namespace Sys2Proof.Machine

/-- `rx_ackno_abs()`, modulo `2^64` (43_receiver_feedback.md R160). -/
def rxAcknoAbs (s : State) : U64 := s.rxAssembled + 1 + BitVec.ofNat 64 (b2n s.conn.rxEnded)

/-- `rx_ackno()`: none before any SYN (43_receiver_feedback.md R161). -/
def rxAckno (s : State) : Option U32 :=
  if s.conn.rxSynSeen then some (wrap (rxAcknoAbs s) s.rxIsn) else none

/-- `rx_window_full()` (43_receiver_feedback.md R162). -/
def rxWindowFull (s : State) : U64 := satSub64 s.cfgCapacity s.rxBuffered

/-- `rx_window16()` (43_receiver_feedback.md R162). -/
def rxWindow16 (s : State) : U16 := BitVec.ofNat 16 (min (rxWindowFull s).toNat 65535)

/-- `rx_map(seqno, syn)`: the stream index of the payload, none where it is not forwarded
(43_receiver_feedback.md R165). -/
def rxMap (seqno : U32) (syn : Bool) (s : State) : Option U64 :=
  let abs := unwrap seqno s.rxIsn (s.rxAssembled + 1)
  if syn then some 0
  else if abs = 0 then none
  else some (abs - 1)

/-- RX_STATUS's checks, in their order (43_receiver_feedback.md R163). -/
def rxStatusCheck (ended : Bool) (s : State) : Option Code :=
  let a := rxAssembledReport s
  let b := rxBufferedReport s
  failIf (!s.conn.rxSynSeen && (a != 0 || b != 0 || ended)) .einval <|
  failIf (decide (a.toNat < s.rxAssembled.toNat)) .einval <|
  failIf (decide (a.toNat < b.toNat)) .einval <|
  failIf (s.conn.rxEnded && (!ended || a != s.rxAssembled)) .einval none

/-- RX_STATUS's writes (43_receiver_feedback.md R163). -/
def rxStatusBody (ended : Bool) (s : State) : Work :=
  { st :=
    { s with
      rxAssembled := rxAssembledReport s
      rxBuffered := rxBufferedReport s
      conn := { s.conn with rxEnded := s.conn.rxEnded || ended } } }

/-- RX_STATUS (43_receiver_feedback.md R163). -/
def execRxStatus (ended : Bool) (s : State) : Out := .next (runCommand (rxStatusCheck ended) (rxStatusBody ended) s)

/-- STAMP's writes and its request bit (43_receiver_feedback.md R164). -/
def stampBody (s : State) : Work :=
  let sent := { s with res2 := zext64 (wrap s.txNext s.cfgTxIsn), conn := { s.conn with txd := true } }
  match rxAckno s with
  | some ack =>
    { st := { sent with res0 := zext64 ack, res1 := (rxWindow16 s).setWidth 64 }, req := { stampv := true } }
  | none => { st := { sent with res0 := 0, res1 := 0 } }

/-- STAMP (43_receiver_feedback.md R164). -/
def execStamp (s : State) : Out := .next (runCommand noCheck stampBody s)

end Sys2Proof.Machine
end

