-- ==== Sys2Proof/Machine/Timer.lean ====
section
/-! DEFINITION. The actions of the retransmission timer (41_timer.md R121-R126) and the commands TMR_START, TMR_STOP,
TMR_RESET, TMR_DOUBLE, TMR_TICK and TMR_QUERY (R127-R132). -/

namespace Sys2Proof.Machine

/-- `t_start()` (41_timer.md R121). -/
def tStart (s : State) : State := { s with tmrElapsed := 0, conn := { s.conn with tmrRunning := true } }

/-- `t_stop()` (41_timer.md R122). -/
def tStop (s : State) : State := s.withConn { s.conn with tmrRunning := false }

/-- `t_reset()` (41_timer.md R123). -/
def tReset (s : State) : State := { s with tmrRto := zext64 s.cfgRtoInit }

/-- `t_double()` (41_timer.md R124). -/
def tDouble (s : State) : State := { s with tmrRto := satDbl64 s.tmrRto }

/-- `t_tick(dt)` (41_timer.md R125). -/
def tTick (dt : U64) (s : State) : State :=
  { s with tmrElapsed := if s.conn.tmrRunning then satAdd64 s.tmrElapsed dt else s.tmrElapsed }

/-- `t_expired()` (41_timer.md R126). -/
def tExpired (s : State) : Bool := s.conn.tmrRunning && decide (s.tmrRto.toNat ≤ s.tmrElapsed.toNat)

/-- TMR_START's writes. -/
def tmrStartBody (s : State) : Work := { st := tStart s }

/-- TMR_START (41_timer.md R127). -/
def execTmrStart (s : State) : Out := .next (runCommand noCheck tmrStartBody s)

/-- TMR_STOP's writes. -/
def tmrStopBody (s : State) : Work := { st := tStop s }

/-- TMR_STOP (41_timer.md R128). -/
def execTmrStop (s : State) : Out := .next (runCommand noCheck tmrStopBody s)

/-- TMR_RESET's writes. -/
def tmrResetBody (s : State) : Work := { st := tReset s }

/-- TMR_RESET (41_timer.md R129). -/
def execTmrReset (s : State) : Out := .next (runCommand noCheck tmrResetBody s)

/-- TMR_DOUBLE's writes. -/
def tmrDoubleBody (s : State) : Work := { st := tDouble s }

/-- TMR_DOUBLE (41_timer.md R130). -/
def execTmrDouble (s : State) : Out := .next (runCommand noCheck tmrDoubleBody s)

/-- TMR_TICK's writes. -/
def tmrTickBody (s : State) : Work := { st := tTick (tickDelta s) s }

/-- TMR_TICK (41_timer.md R131). -/
def execTmrTick (s : State) : Out := .next (runCommand noCheck tmrTickBody s)

/-- TMR_QUERY's writes and its request bit. -/
def tmrQueryBody (s : State) : Work :=
  { st := { s with res0 := s.tmrElapsed, res1 := s.tmrRto }, req := { expired := tExpired s } }

/-- TMR_QUERY (41_timer.md R132). -/
def execTmrQuery (s : State) : Out := .next (runCommand noCheck tmrQueryBody s)

end Sys2Proof.Machine
end

