-- ==== Sys2Proof/Machine/Sender.lean ====
section
/-! DEFINITION. Acknowledgment acceptance (42_sender_tracking.md R140) and the commands TX_SENT, TX_RETIRE and TX_EOF
(R141-R143). -/

namespace Sys2Proof.Machine

/-- `abs` of `ack_accept(ackno, win)`: the absolute acknowledgment number (42_sender_tracking.md R140). -/
def ackAbs (ackno : U32) (s : State) : U64 := unwrap ackno s.cfgTxIsn s.txNext

/-- The acceptance test of `ack_accept`: `TX_ACKED <= abs and abs <= TX_NEXT` (42_sender_tracking.md R140). -/
def ackAcceptable (ackno : U32) (s : State) : Bool :=
  decide (s.txAcked.toNat ≤ (ackAbs ackno s).toNat) && decide ((ackAbs ackno s).toNat ≤ s.txNext.toNat)

/-- The writes of `ack_accept` (42_sender_tracking.md R140): none when the number is not acceptable. -/
def ackAccept (ackno : U32) (win : U16) (s : State) : State :=
  if ackAcceptable ackno s then { s with txAcked := ackAbs ackno s, txWindow := win } else s

/-- TX_SENT's checks, in their order (42_sender_tracking.md R141). -/
def txSentCheck (syn fin : Bool) (s : State) : Option Code :=
  let len := seglen syn (payloadLen s) fin
  needActive s <|
  failIf (len == 0) .einval <|
  failIf s.conn.txFinSent .einval <|
  failIf (syn && s.conn.txSynSent) .einval <|
  failIf (!syn && !s.conn.txSynSent) .einval <|
  failIf (decide (2 ^ 64 - 1 < s.txNext.toNat + len.toNat)) .einval none

/-- TX_SENT's writes (42_sender_tracking.md R141). TX_INFLIGHT + L wraps only in states no run reaches (log 7). -/
def txSentBody (syn fin : Bool) (s : State) : Work :=
  let len := seglen syn (payloadLen s) fin
  { st :=
    { s with
      res0 := s.txNext
      res1 := zext64 (wrap s.txNext s.cfgTxIsn)
      txNext := s.txNext + len
      txInflight := s.txInflight + len
      tmrElapsed := if s.conn.tmrRunning then s.tmrElapsed else 0
      conn :=
        { s.conn with
          txSynSent := s.conn.txSynSent || syn
          txFinSent := s.conn.txFinSent || fin
          txEof := s.conn.txEof || fin
          tmrRunning := true
          txd := true } } }

/-- TX_SENT (42_sender_tracking.md R141). -/
def execTxSent (syn fin : Bool) (s : State) : Out := .next (runCommand (txSentCheck syn fin) (txSentBody syn fin) s)

/-- TX_RETIRE's checks, in their order, on exact integers (42_sender_tracking.md R142, log 7). -/
def txRetireCheck (s : State) : Option Code :=
  let n := (retiredLen s).toNat
  needActive s <|
  failIf (decide (s.txInflight.toNat < n)) .einval <|
  failIf (decide (s.txInflight.toNat - n < s.txNext.toNat - s.txAcked.toNat)) .einval none

/-- The writes made "if any segment was retired" (42_sender_tracking.md R142). -/
def retireProgress (s : State) : State := tStart (tReset { s with retxCount := 0 })

/-- TX_RETIRE's writes (42_sender_tracking.md R142). -/
def txRetireBody (s : State) : Work :=
  let n := retiredLen s
  let s1 := { s with txInflight := s.txInflight - n }
  let s2 := if n = 0 then s1 else retireProgress s1
  { st := if s2.txInflight = 0 then tStop s2 else s2 }

/-- TX_RETIRE (42_sender_tracking.md R142). -/
def execTxRetire (s : State) : Out := .next (runCommand txRetireCheck txRetireBody s)

/-- TX_EOF's check (42_sender_tracking.md R143). -/
def txEofCheck (s : State) : Option Code := needActive s none

/-- TX_EOF's write (42_sender_tracking.md R143). -/
def txEofBody (s : State) : Work := { st := s.withConn { s.conn with txEof := true } }

/-- TX_EOF (42_sender_tracking.md R143). -/
def execTxEof (s : State) : Out := .next (runCommand txEofCheck txEofBody s)

end Sys2Proof.Machine
end

