-- ==== Sys2Proof/Machine/Connection.lean ====
section
/-! DEFINITION. The connection state machine (44_connection.md): the clean-shutdown check (R180), the linger and
acknowledgment rules (R185, R186), and the commands NOP, SEG_RX, SEG_END, TICK, EVAL, CLOSE and INIT (R182-R190). -/

namespace Sys2Proof.Machine

/-- The linger period, `10 * zext_64(CFG_RTO_INIT)`, exact (44_connection.md R180). -/
def lingerPeriod (s : State) : Nat := 10 * s.cfgRtoInit.toNat

/-- The condition of `shutdown_eval()` (44_connection.md R180). -/
def shutdownDue (s : State) : Bool :=
  s.conn.active && bothFinished s && (!s.conn.linger || decide (lingerPeriod s ≤ s.timeSinceRx.toNat))

/-- `shutdown_eval()` (44_connection.md R180): a clean shutdown changes nothing but ACTIVE. -/
def shutdownEval (w : Work) : Work :=
  if shutdownDue w.st then
    { st := w.st.withConn { w.st.conn with active := false }, req := { w.req with closedNow := true } }
  else w

/-- NOP's writes: none. -/
def nopBody (s : State) : Work := { st := s }

/-- NOP (44_connection.md R182). -/
def execNop (s : State) : Out := .next (runCommand noCheck nopBody s)

/-- SEG_RX's checks, steps 1 and 2 (44_connection.md R183). -/
def segRxCheck (s : State) : Option Code := needNoSegment s <| needActive s none

/-- SEG_RX step 4: an RST segment is an immediate unclean shutdown (44_connection.md R183). -/
def segRxReset (s : State) : Work :=
  { st := uncleanShutdown s, req := { streamErr := true, closedNow := true } }

/-- SEG_RX step 6: the first SYN gives the inbound ISN (44_connection.md R183). -/
def captureSyn (syn : Bool) (seqno : U32) (s : State) : State :=
  if syn && !s.conn.rxSynSeen then { s with rxIsn := seqno, conn := { s.conn with rxSynSeen := true } } else s

/-- SEG_RX step 7: the payload's placement (44_connection.md R183). -/
def placePayload (syn fin : Bool) (seqno : U32) (w : Work) : Work :=
  match rxMap seqno syn w.st with
  | some idx => { st := { w.st with res0 := idx }, req := { w.req with fwd := true, last := fin } }
  | none => { w with st := { w.st with res0 := 0 } }

/-- SEG_RX step 8: the acknowledgment (44_connection.md R183). -/
def applyAck (ack : Bool) (ackno : U32) (win : U16) (w : Work) : Work :=
  if ack then
    { st := { ackAccept ackno win w.st with res1 := ackAbs ackno w.st }
      req := { w.req with ackv := ackAcceptable ackno w.st } }
  else { w with st := { w.st with res1 := 0 } }

/-- SEG_RX steps 9 and 10: the open request and the pending-segment latch (44_connection.md R183). -/
def latchSegment (syn fin : Bool) (seqno len : U32) (w : Work) : Work :=
  { st :=
    { w.st with
      seglSeqno := seqno
      seglLen := seglen syn len fin
      conn := { w.st.conn with segPend := true, txd := false } }
    req := { w.req with connectReq := syn && !w.st.conn.txSynSent, pend := true } }

/-- SEG_RX steps 6 to 10: the processing of a segment that is neither an RST nor discarded. -/
def segRxProcess (syn fin ack : Bool) (win : U16) (s : State) : Work :=
  let w0 : Work := { st := captureSyn syn (segSeqno s) s }
  let w1 := placePayload syn fin (segSeqno s) w0
  let w2 := applyAck ack (segAckno s) win w1
  latchSegment syn fin (segSeqno s) (segPayloadLen s) w2

/-- SEG_RX's writes, steps 3 to 10 (44_connection.md R183). -/
def segRxBody (syn fin rst ack : Bool) (win : U16) (s : State) : Work :=
  let s3 := { s with timeSinceRx := 0 }
  if rst then segRxReset s3
  else if !s.conn.rxSynSeen && !syn then { st := s3 }
  else segRxProcess syn fin ack win s3

/-- SEG_RX (44_connection.md R183). -/
def execSegRx (syn fin rst ack : Bool) (win : U16) (s : State) : Out :=
  .next (runCommand segRxCheck (segRxBody syn fin rst ack win) s)

/-- SEG_END's check (44_connection.md R184). -/
def segEndCheck (s : State) : Option Code := failIf (!s.conn.segPend) .eseq none

/-- `linger_rule()` (44_connection.md R185). -/
def lingerRule (s : State) : State :=
  if s.conn.rxEnded && !s.conn.txEof then s.withConn { s.conn with linger := false } else s

/-- `ka` of `ack_rule()`: the segment is a keep-alive probe (44_connection.md R186). -/
def keepaliveProbe (s : State) : Bool :=
  match rxAckno s with
  | some exp => s.seglLen == 0 && s.seglSeqno == exp - 1
  | none => false

/-- `need` of `ack_rule()`: an acknowledgment is owed (44_connection.md R186). -/
def ackOwed (s : State) : Bool := s.seglLen != 0 && !s.conn.txd

/-- SEG_END's writes, steps 2 to 5 (44_connection.md R184). -/
def segEndBody (s : State) : Work :=
  let s3 := lingerRule (s.withConn { s.conn with segPend := false })
  shutdownEval
    { st := s3, req := { emptyReq := keepaliveProbe s3 || ackOwed s3, keepalive := keepaliveProbe s3 } }

/-- SEG_END (44_connection.md R184). -/
def execSegEnd (s : State) : Out := .next (runCommand segEndCheck segEndBody s)

/-- TICK's checks, steps 1 and 2; the checks of EVAL too (44_connection.md R187, R188). -/
def tickCheck (s : State) : Option Code := needNoSegment s <| needActive s none

/-- The penalty of an expiry with a non-zero peer window: the count and the doubling (44_connection.md R187). -/
def backoff (s : State) : State :=
  if s.txWindow = 0 then s else tDouble { s with retxCount := satAdd32 s.retxCount 1 }

/-- What an expiry does: with nothing outstanding the timer stops, else it backs off and restarts
(44_connection.md R187 step 4). -/
def handleExpiry (s : State) : State := if s.txInflight = 0 then tStop s else tStart (backoff s)

/-- TICK step 5: the retransmission limit, else the retransmission and the shutdown check (44_connection.md R187). -/
def limitRule (retx : Bool) (w : Work) : Work :=
  if w.st.cfgMaxRetx.toNat < w.st.retxCount.toNat then
    { st := uncleanShutdown w.st
      req := { w.req with flushReq := true, rstReq := true, streamErr := true, closedNow := true } }
  else shutdownEval { w with req := { w.req with retxReq := retx } }

/-- TICK's writes, steps 3 to 5 (44_connection.md R187). -/
def tickBody (s : State) : Work :=
  let dt := tickDelta s
  let s4 := tTick dt { s with timeSinceRx := satAdd64 s.timeSinceRx dt }
  let fired := tExpired s4
  limitRule (fired && s4.txInflight != 0)
    { st := if fired then handleExpiry s4 else s4, req := { expired := fired } }

/-- TICK (44_connection.md R187). -/
def execTick (s : State) : Out := .next (runCommand tickCheck tickBody s)

/-- EVAL's checks (44_connection.md R188). -/
def evalCheck (s : State) : Option Code := needNoSegment s <| needActive s none

/-- EVAL's writes (44_connection.md R188). -/
def evalBody (s : State) : Work := shutdownEval { st := s }

/-- EVAL (44_connection.md R188). -/
def execEval (s : State) : Out := .next (runCommand evalCheck evalBody s)

/-- CLOSE's writes (44_connection.md R189): nothing on an inactive connection. -/
def closeBody (s : State) : Work :=
  if s.conn.active then
    { st := s.withConn { s.conn with active := false, err := true, segPend := false }
      req := { rstReq := true, streamErr := true, closedNow := true } }
  else { st := s }

/-- CLOSE (44_connection.md R189). -/
def execClose (s : State) : Out := .next (runCommand noCheck closeBody s)

/-- INIT's check: a live connection must be closed first (44_connection.md R190). -/
def initCheck (s : State) : Option Code := failIf s.conn.active .einval none

/-- INIT's writes (44_connection.md R190). -/
def initBody (s : State) : Work :=
  { st :=
    { s with
      conn := Conn.fresh
      txNext := 0, txAcked := 0, txInflight := 0, txWindow := 1, retxCount := 0
      tmrRto := zext64 s.cfgRtoInit, tmrElapsed := 0, timeSinceRx := 0
      rxIsn := 0, rxAssembled := 0, rxBuffered := 0
      seglSeqno := 0, seglLen := 0 } }

/-- INIT (44_connection.md R190). -/
def execInit (s : State) : Out := .next (runCommand initCheck initBody s)

end Sys2Proof.Machine
end

