-- ==== Sys2Proof/Machine/Dispatch.lean ====
section
/-! DEFINITION. One arm for each command (30_encoding.md R85). -/

namespace Sys2Proof.Machine

def exec (i : Instr) (s : State) : Host.Outcome State Fault Refusal :=
  match i with
  -- sequence space (40_seqspace.md)
  | .wrap => Sys2Proof.Machine.execWrap s
  | .unwrap => Sys2Proof.Machine.execUnwrap s
  | .seglen syn fin => Sys2Proof.Machine.execSeglen syn fin s
  -- timer (41_timer.md)
  | .tmrStart => Sys2Proof.Machine.execTmrStart s
  | .tmrStop => Sys2Proof.Machine.execTmrStop s
  | .tmrReset => Sys2Proof.Machine.execTmrReset s
  | .tmrDouble => Sys2Proof.Machine.execTmrDouble s
  | .tmrTick => Sys2Proof.Machine.execTmrTick s
  | .tmrQuery => Sys2Proof.Machine.execTmrQuery s
  -- sender tracking (42_sender_tracking.md)
  | .txSent syn fin => Sys2Proof.Machine.execTxSent syn fin s
  | .txRetire => Sys2Proof.Machine.execTxRetire s
  | .txEof => Sys2Proof.Machine.execTxEof s
  -- receiver feedback (43_receiver_feedback.md)
  | .rxStatus ended => Sys2Proof.Machine.execRxStatus ended s
  | .stamp => Sys2Proof.Machine.execStamp s
  -- connection (44_connection.md)
  | .nop => Sys2Proof.Machine.execNop s
  | .segRx syn fin rst ack win => Sys2Proof.Machine.execSegRx syn fin rst ack win s
  | .segEnd => Sys2Proof.Machine.execSegEnd s
  | .tick => Sys2Proof.Machine.execTick s
  | .eval => Sys2Proof.Machine.execEval s
  | .close => Sys2Proof.Machine.execClose s
  | .init => Sys2Proof.Machine.execInit s

end Sys2Proof.Machine
end

