-- ==== Sys2Proof/Machine/Bus.lean ====
section
/-! DEFINITION. The register window as the host drives it (20_memory.md R60-R70): a write of CMD issues a command, any
other defined access reads or writes a register, an undefined access is refused; the host's addresses; the order in
which the host's accesses are taken. -/

namespace Sys2Proof.Machine

/-- A host write of CMD (20_memory.md R63, 10_state.md R23): bits 31:0 are decoded and the command runs; a word that
selects no row ends with `raise Status(EOPC)` (30_encoding.md R84). -/
def issueCommand (v : U64) (s : State) : Out :=
  match decode (low32 v) with
  | .ok i => exec i s
  | .error _ => .next (s.refuse .eopc)

/-- A defined host read: it returns the slot's value and changes nothing (20_memory.md R66). -/
def hostRead (off : BitVec 8) (s : State) : Out := .next { s with readData := windowRead s off }

/-- A defined host write (20_memory.md R62, R66, R67): CMD issues a command, a reserved slot ignores it. -/
def hostWrite (off : BitVec 8) (v : U64) (s : State) : Out :=
  match regAt off with
  | some .cmd => issueCommand v s
  | some r => .next (regWrite s r v)
  | none => .next s

/-- One host access; an access that is not an aligned 8-byte access is refused (20_memory.md R64, log 5). -/
def performAccess (a : HostAccess) (s : State) : Out :=
  match a with
  | .read off width => if a.wellFormed then hostRead off s else .refused (.badAccess off width)
  | .write off width v => if a.wellFormed then hostWrite off v s else .refused (.badAccess off width)

/-- The host's next access in its program order is taken and performed (20_memory.md R69); without one the block does
nothing: it "executes nothing until the host's first write of CMD" (70_reset_and_hazards.md R252, log 2). -/
def takeAccess (s : State) : Out :=
  match s.hostQueue with
  | [] => .next s
  | a :: rest => performAccess a { s with hostQueue := rest }

/-- The host makes an access: it is taken after every access made before it (20_memory.md R69). -/
def State.offer (s : State) (a : HostAccess) : State := { s with hostQueue := s.hostQueue ++ [a] }

/-- The access that writes a command word to CMD (00_scope.md R12, R13). -/
def cmdWrite (w : U32) : HostAccess := .write (regOffset .cmd) 8 (zext64 w)

/-- The offset of a host byte address in the window `BASE .. BASE + 255`, none for an address elsewhere: that access
is not the block's (20_memory.md R60, R61, log 6). An access is taken by the address of its first byte. DESIGN CHOICE,
unsafe: one that starts below BASE and runs into the window, to which R64 gives no meaning, never reaches the block and
changes nothing (log 14). -/
def windowOffset (addr : Nat) : Option (BitVec 8) :=
  if Config.base ≤ addr ∧ addr < Config.base + 256 then some (BitVec.ofNat 8 addr) else none

/-- `MemRead(addr, width)` (00_scope.md R13). -/
def memRead (addr width : Nat) (s : State) : State :=
  match windowOffset addr with
  | some off => s.offer (.read off width)
  | none => s

/-- `MemWrite(addr, width, v)` (00_scope.md R13). -/
def memWrite (addr width : Nat) (v : U64) (s : State) : State :=
  match windowOffset addr with
  | some off => s.offer (.write off width v)
  | none => s

end Sys2Proof.Machine
end

