-- ==== Sys2Proof/Machine/Step.lean ====
section
/-! DEFINITION. One step: the host's next access is taken and performed (20_memory.md R63, R69). -/

namespace Sys2Proof.Machine

/-- One step of the machine. -/
def step (s : State) : Host.Outcome State Fault Refusal := takeAccess s

/-- The host's very next access is a write of the table row's word to CMD: the block fetches no instruction, "each
command is supplied by a host write of CMD" (10_state.md R21, log 2). The accesses already offered follow it. -/
def State.withFetchWord (s : State) (nbits w : Nat) : State :=
  { s with hostQueue := cmdWrite (tableWord nbits w) :: s.hostQueue }

end Sys2Proof.Machine
end

