-- ==== Sys2Proof/Machine/HostProgram.lean ====
section
/-! DEFINITION. The host's assembler lines as accesses (30_encoding.md R88) and the pseudo-instructions (R89). -/

namespace Sys2Proof.Machine

/-- The flag bits of the letters after the dot (30_encoding.md R81, R88). -/
def flagBits (flags : List Flag) : U32 := flags.foldl (fun w f => w ||| BitVec.ofNat 32 (2 ^ f.bit)) 0

/-- The command word of an assembler command: `match` OR the flag bits OR `N << 16` (30_encoding.md R88). -/
def asmWord (c : AsmCmd) : U32 := c.mnemonic.row.pattern ||| flagBits c.flags ||| BitVec.ofNat 32 (c.win.getD 0 * 2 ^ 16)

/-- The command an assembler command names (30_encoding.md R81, R82, R88). -/
def asmInstr (c : AsmCmd) : Instr :=
  let has (f : Flag) : Bool := c.flags.contains f
  match c.mnemonic with
  | .nop => .nop
  | .wrap => .wrap
  | .unwrap => .unwrap
  | .seglen => .seglen (has .S) (has .F)
  | .tmrStart => .tmrStart
  | .tmrStop => .tmrStop
  | .tmrReset => .tmrReset
  | .tmrDouble => .tmrDouble
  | .tmrTick => .tmrTick
  | .tmrQuery => .tmrQuery
  | .segRx => .segRx (has .S) (has .F) (has .R) (has .A) (BitVec.ofNat 16 (c.win.getD 0))
  | .segEnd => .segEnd
  | .rxStatus => .rxStatus (has .E)
  | .txSent => .txSent (has .S) (has .F)
  | .txRetire => .txRetire
  | .txEof => .txEof
  | .tick => .tick
  | .eval => .eval
  | .close => .close
  | .stamp => .stamp
  | .init => .init

/-- A line is one access (30_encoding.md R88). -/
def asmAccess : AsmLine → HostAccess
  | .wr r v => .write (regOffset r) 8 v
  | .rd r => .read (regOffset r) 8
  | .cmd c => cmdWrite (asmWord c)

/-- `issue MNEMONIC[.FLAGS] [win=N] a0[, a1[, a2]]` (30_encoding.md R89): the operands given are written to ARG0, ARG1
and ARG2 in order, then the command. -/
def asmIssue (c : AsmCmd) (operands : List U64) : List AsmLine :=
  (List.zipWith AsmLine.wr [.arg0, .arg1, .arg2] operands) ++ [.cmd c]

/-- `segrx[.FLAGS] seqno, ackno, len [win=N]` (30_encoding.md R89). -/
def asmSegrx (flags : List Flag) (seqno ackno len : U32) (win : Option Nat) : List AsmLine :=
  [.wr .arg0 ((zext64 ackno <<< 32) ||| zext64 seqno), .wr .arg1 (zext64 len), .cmd ⟨.segRx, flags, win⟩]

/-- `expect REG, value` (30_encoding.md R89) expands to `rd REG`; the value is the program's claim, not a line's. -/
def asmExpect (r : Reg) (_value : U64) : List AsmLine := [.rd r]

/-- The host issues the lines of a program, in order (20_memory.md R69). -/
def runLines (lines : List AsmLine) (s : State) : State := lines.foldl (fun t l => t.offer (asmAccess l)) s

end Sys2Proof.Machine
end

