-- ==== Sys2Proof/Safety.lean ====
section
/-! DEFINITION. What counts as a good state and a run, in the terms the statements use: the invariants of 10_state.md
R55, the states a run reaches, a run of expiring ticks. -/

namespace Sys2Proof

open Machine

/-- The eight invariants of 10_state.md R55, in its order. -/
structure Inv (s : State) : Prop where
  ackedLeNext : s.txAcked.toNat ≤ s.txNext.toNat
  inflightBounds : s.txNext.toNat - s.txAcked.toNat ≤ s.txInflight.toNat ∧ s.txInflight.toNat ≤ s.txNext.toNat
  nextZeroIffNoSyn : s.txNext = 0 ↔ s.conn.txSynSent = false
  finNeedsEofAndSyn : s.conn.txFinSent = true → s.conn.txEof = true ∧ s.conn.txSynSent = true
  bufferedLeAssembled : s.rxBuffered.toNat ≤ s.rxAssembled.toNat
  noSynNoStream : s.conn.rxSynSeen = false → s.rxAssembled = 0 ∧ s.rxBuffered = 0 ∧ s.conn.rxEnded = false
  errNotActive : s.conn.err = true → s.conn.active = false
  pendingActive : s.conn.segPend = true → s.conn.active = true

/-- "a running timer implies outstanding data" (10_state.md R55), which holds only while the host uses no TMR_*
command. -/
def TimerInv (s : State) : Prop := s.conn.tmrRunning = true → 0 < s.txInflight.toNat

/-- Before the peer's SYN is seen no acknowledgment has been accepted: SEG_RX discards such a segment "with its ACK"
(44_connection.md R183; 90_conflicts.md C1). The model's inference, not a rule of its own. -/
def SynBeforeAck (s : State) : Prop := s.conn.rxSynSeen = false → s.txAcked = 0

/-- An access that issues a TMR_* command (41_timer.md R120). -/
def usesTimerCommand : HostAccess → Bool
  | .read _ _ => false
  | .write off _ v =>
    off == 0 &&
      match decode (low32 v) with
      | .ok i => [Mnemonic.tmrStart, .tmrStop, .tmrReset, .tmrDouble, .tmrTick, .tmrQuery].contains i.mnemonic
      | .error _ => false

/-- The states reached from power-on reset when the host makes accesses of a given kind, at any time and in any
order: it offers one, or the machine takes the next (20_memory.md R69). -/
inductive ReachableBy (may : HostAccess → Prop) : State → Prop where
  | reset : ReachableBy may State.reset
  | offer {s : State} (a : HostAccess) : may a → ReachableBy may s → ReachableBy may (s.offer a)
  | step {s t : State} : ReachableBy may s → step s = .next t → ReachableBy may t

/-- The states reached from power-on reset "whatever the host does" (10_state.md R55). -/
def Reachable (s : State) : Prop := ReachableBy (fun _ => True) s

/-- `n` TICKs in a row, each by exactly the current RTO and nothing in between. -/
def expiringTicks : Nat → State → Out
  | 0, s => .next s
  | n + 1, s =>
    match exec .tick { s with arg0 := s.tmrRto } with
    | .next t => expiringTicks n t
    | .fault f => .fault f
    | .refused r => .refused r

/-- Whether the clean-shutdown check closes the connection (44_connection.md R180), as a function of the LINGER flag
and the time since the last segment that it reads. -/
def closesCleanly (s : State) (linger : Bool) (sinceRx : Nat) : Bool :=
  s.conn.active && s.conn.rxEnded && s.conn.txFinSent && s.txAcked == s.txNext &&
    (!linger || decide (10 * s.cfgRtoInit.toNat ≤ sinceRx))

/-- The operand bits a command reads of ARG0, ARG1 and ARG2 (30_encoding.md R83). -/
def operandBits : Mnemonic → U64 × U64 × U64
  | .nop => (0, 0, 0)
  | .wrap => (0xFFFFFFFFFFFFFFFF, 0x00000000FFFFFFFF, 0)
  | .unwrap => (0x00000000FFFFFFFF, 0x00000000FFFFFFFF, 0xFFFFFFFFFFFFFFFF)
  | .seglen => (0x00000000FFFFFFFF, 0, 0)
  | .tmrStart | .tmrStop | .tmrReset | .tmrDouble => (0, 0, 0)
  | .tmrTick => (0xFFFFFFFFFFFFFFFF, 0, 0)
  | .tmrQuery => (0, 0, 0)
  | .segRx => (0xFFFFFFFFFFFFFFFF, 0x00000000FFFFFFFF, 0)
  | .segEnd => (0, 0, 0)
  | .rxStatus => (0xFFFFFFFFFFFFFFFF, 0xFFFFFFFFFFFFFFFF, 0)
  | .txSent => (0x00000000FFFFFFFF, 0, 0)
  | .txRetire => (0xFFFFFFFFFFFFFFFF, 0, 0)
  | .txEof => (0, 0, 0)
  | .tick => (0xFFFFFFFFFFFFFFFF, 0, 0)
  | .eval | .close | .init => (0, 0, 0)
  | .stamp => (0, 0, 0)

/-- The bits of a command word that a row leaves free: its FLAGS letters, and IMM16 for SEG_RX (30_encoding.md R81,
R82, R84). -/
def freeBits (m : Mnemonic) : U32 := flagBits m.freeFlags ||| (if m.hasWindow then 0xFFFF0000 else 0)

/-- A Boolean as a 32-bit word with that bit at `k` (30_encoding.md R81). -/
def bitAt (f : Bool) (k : Nat) : U32 := if f then BitVec.ofNat 32 (2 ^ k) else 0

end Sys2Proof
end

