-- ==== Sys2Proof/Certificates/Slice0/Obligations.lean ====
section
/-! DEFINITION. The statements about the model. Each docstring names the rule of spec/ it formalises. -/

open Sys2Proof Sys2Proof.Machine

/-! ## Decoding -/

/-- Decode and encode agree on every instruction (30_encoding.md R84, R85). -/
def Obligations.DecodeEncodeRoundTrip : Prop :=
  ∀ i : Instr, decode (encode i) = .ok i

/-- A word that decodes is the encoding of what it decodes to: every legal word has one meaning, and no bit of it is
dropped (30_encoding.md R84, R85). -/
def Obligations.DecodedWordIsItsEncoding : Prop :=
  ∀ (w : U32) (i : Instr), decode w = .ok i → encode i = w

/-- 30_encoding.md R84: a command word selects the unique row with `(w & mask) = match`; the masks fix everything but
the row's own FLAGS letters and, for SEG_RX, IMM16; no two rows overlap; a word that selects no row ends with EOPC
and changes nothing but STATUS. -/
def Obligations.CommandWordSelectsUniqueRow : Prop :=
  (∀ (m m' : Mnemonic) (w : U32), m.row.selects w = true → m'.row.selects w = true → m = m') ∧
  (∀ (m : Mnemonic) (w : U32), m.row.selects w = true → ∃ i, decode w = .ok i ∧ i.mnemonic = m) ∧
  (∀ m : Mnemonic, m.row.mask = ~~~ freeBits m) ∧
  (∀ (s : State) (v : U64) (rest : List HostAccess),
    s.hostQueue = .write 0x00 8 v :: rest → (∀ m : Mnemonic, m.row.selects (low32 v) = false) →
    step s = .next { s with hostQueue := rest, status := { code := .eopc, req := {} } })

/-- A few words written out from the patterns of 30_encoding.md R85, one of each family, and words that select no
row. -/
def Obligations.SampleWordsDecode : Prop :=
  decode 0x00000000 = .ok .nop ∧
  decode 0x00000002 = .ok .unwrap ∧
  decode 0x00000303 = .ok (.seglen true true) ∧
  decode 0x00000014 = .ok .tmrTick ∧
  decode 0x03E80920 = .ok (.segRx true false false true 1000) ∧
  decode 0x00001022 = .ok (.rxStatus true) ∧
  decode 0x00000123 = .ok (.txSent true false) ∧
  decode 0x00000029 = .ok .stamp ∧
  decode 0x0000002A = .ok .init ∧
  decode 0x0000002B = .error .reservedOp ∧
  decode 0x00010001 = .error .unusedField ∧
  decode 0x00001120 = .error .unusedField

/-- 30_encoding.md R88: a legal assembler command's word decodes to the command it names. -/
def Obligations.AssemblerWordsDecode : Prop :=
  ∀ c : AsmCmd, c.wellFormed = true → decode (asmWord c) = .ok (asmInstr c) ∧ encode (asmInstr c) = asmWord c

/-! ## The register window and the step -/

/-- 20_memory.md R63: a host write of CMD decodes bits 31:0 of the written value and executes the command to
completion in the state left by the accesses before it. -/
def Obligations.CommandWriteRunsDecodedCommand : Prop :=
  ∀ (s : State) (v : U64) (rest : List HostAccess) (i : Instr),
    s.hostQueue = .write 0x00 8 v :: rest → decode (low32 v) = .ok i →
    step s = exec i { s with hostQueue := rest }

/-- Without a host access the block does nothing (70_reset_and_hazards.md R252; the idle step is the model's, log 2). -/
def Obligations.BlockIdlesWithoutAccess : Prop :=
  ∀ s : State, s.hostQueue = [] → step s = .next s

/-- 20_memory.md R64: the only defined access is an 8-byte access at a multiple of 8; the model refuses every other,
and refuses nothing else. -/
def Obligations.OnlyUndefinedAccessesRefused : Prop :=
  (∀ (s : State) (off : BitVec 8) (width : Nat) (rest : List HostAccess),
    s.hostQueue = .read off width :: rest → (width ≠ 8 ∨ off.toNat % 8 ≠ 0) →
    step s = .refused (.badAccess off width)) ∧
  (∀ (s : State) (off : BitVec 8) (width : Nat) (v : U64) (rest : List HostAccess),
    s.hostQueue = .write off width v :: rest → (width ≠ 8 ∨ off.toNat % 8 ≠ 0) →
    step s = .refused (.badAccess off width)) ∧
  (∀ s : State, (∀ a ∈ s.hostQueue, a.wellFormed = true) → ∃ t, step s = .next t)

/-- 20_memory.md R62, R66, R67: what a read of each slot of the window returns (nothing else changes), what a write of
each slot but CMD does, that a write of CMD issues a command, and that every access but a CMD write is idempotent. -/
def Obligations.RegisterWindowAccesses : Prop :=
  (∀ (s : State) (off : BitVec 8) (rest : List HostAccess),
    s.hostQueue = .read off 8 :: rest → off.toNat % 8 = 0 →
    step s = .next { s with
      hostQueue := rest
      readData :=
        if off = 0x08 then s.arg0 else if off = 0x10 then s.arg1 else if off = 0x18 then s.arg2
        else if off = 0x20 then s.res0 else if off = 0x28 then s.res1 else if off = 0x30 then s.res2
        else if off = 0x38 then statusWord s else if off = 0x40 then connWord s
        else if off = 0x48 then s.cfgRtoInit.setWidth 64 else if off = 0x50 then s.cfgMaxRetx.setWidth 64
        else if off = 0x58 then s.cfgCapacity else if off = 0x60 then s.cfgTxIsn.setWidth 64
        else if off = 0x68 then s.txNext else if off = 0x70 then s.txAcked
        else if off = 0x78 then s.txInflight else if off = 0x80 then s.txWindow.setWidth 64
        else if off = 0x88 then s.retxCount.setWidth 64 else if off = 0x90 then s.tmrRto
        else if off = 0x98 then s.tmrElapsed else if off = 0xA0 then s.timeSinceRx
        else if off = 0xA8 then s.rxIsn.setWidth 64 else if off = 0xB0 then s.rxAssembled
        else if off = 0xB8 then s.rxBuffered else if off = 0xC0 then s.seglSeqno.setWidth 64
        else if off = 0xC8 then s.seglLen else 0 }) ∧
  (∀ (s : State) (off : BitVec 8) (v : U64) (rest : List HostAccess),
    s.hostQueue = .write off 8 v :: rest → off.toNat % 8 = 0 → off ≠ 0x00 →
    step s = .next
      (if off = 0x08 then { s with hostQueue := rest, arg0 := v }
       else if off = 0x10 then { s with hostQueue := rest, arg1 := v }
       else if off = 0x18 then { s with hostQueue := rest, arg2 := v }
       else if off = 0x48 then { s with hostQueue := rest, cfgRtoInit := v.setWidth 32 }
       else if off = 0x50 then { s with hostQueue := rest, cfgMaxRetx := v.setWidth 32 }
       else if off = 0x58 then { s with hostQueue := rest, cfgCapacity := v }
       else if off = 0x60 then
         { s with hostQueue := rest, cfgTxIsn := if s.conn.txSynSent then s.cfgTxIsn else v.setWidth 32 }
       else { s with hostQueue := rest })) ∧
  (∀ (s : State) (v : U64) (rest : List HostAccess), s.hostQueue = .write 0x00 8 v :: rest →
    step s =
      match decode (v.setWidth 32) with
      | .ok i => exec i { s with hostQueue := rest }
      | .error _ => .next { s with hostQueue := rest, status := { code := .eopc, req := {} } }) ∧
  (∀ (s t : State) (a : HostAccess) (rest : List HostAccess), s.hostQueue = a :: rest → (∀ v, a ≠ .write 0x00 8 v) →
    step s = .next t → step { t with hostQueue := a :: rest } = .next t)

/-- 20_memory.md R65: the window is little-endian: the byte at `off + i` holds bits `8i+7 : 8i` of the register at
`off`. -/
def Obligations.WindowIsLittleEndian : Prop :=
  ∀ (s : State) (off : BitVec 8) (i : Nat), off.toNat % 8 = 0 → i < 8 →
    windowByte s (off + BitVec.ofNat 8 i) = BitVec.ofNat 8 ((windowRead s off).toNat / 2 ^ (8 * i))

/-- Host accesses take effect one at a time in the host's program order (20_memory.md R69): an access offered later has
no influence on the step that takes an earlier one, and waits its turn (the queue is the model's, log 2). -/
def Obligations.LaterAccessWaitsItsTurn : Prop :=
  ∀ (s t : State) (a : HostAccess), s.hostQueue ≠ [] → step s = .next t → step (s.offer a) = .next (t.offer a)

/-- A host write of a slot other than CMD leaves every byte of the window outside that slot unchanged (20_memory.md
R66). -/
def Obligations.SlotWriteLeavesOtherBytes : Prop :=
  ∀ (s t : State) (off : BitVec 8) (v : U64) (rest : List HostAccess),
    s.hostQueue = .write off 8 v :: rest → off ≠ 0x00 → step s = .next t →
    ∀ a : BitVec 8, (a.toNat < off.toNat ∨ off.toNat + 8 ≤ a.toNat) → windowByte t a = windowByte s a

/-- An access to the host address `BASE + off` reaches offset `off`, `BASE` being a multiple of 256; an access to any
other address is not the block's (20_memory.md R60, R61; the queue is the model's, log 2, log 6). That this holds of an
access that starts below BASE and runs into the window is the model's choice (log 14). -/
def Obligations.WindowSitsAtBase : Prop :=
  Config.base % 256 = 0 ∧
  (∀ (s : State) (off : BitVec 8) (width : Nat) (v : U64),
    memRead (Config.base + off.toNat) width s = { s with hostQueue := s.hostQueue ++ [.read off width] } ∧
    memWrite (Config.base + off.toNat) width v s = { s with hostQueue := s.hostQueue ++ [.write off width v] }) ∧
  (∀ (s : State) (addr width : Nat) (v : U64), (addr < Config.base ∨ Config.base + 256 ≤ addr) →
    memRead addr width s = s ∧ memWrite addr width v s = s)

/-- 10_state.md R26: the bits of STATUS as a host reads it; a host write of it is ignored, every command rewrites all
of it, and it is 0 after reset. -/
def Obligations.StatusWordLayout : Prop :=
  statusWord State.reset = 0 ∧
  (∀ (s : State) (v : U64), regWrite s .status v = s) ∧
  (∀ (i : Instr) (s : State) (old : Status), exec i { s with status := old } = exec i s) ∧
  ∀ s : State,
    (statusWord s).extractLsb' 0 8 = s.status.code.value ∧
    (statusWord s).getLsbD 8 = s.status.req.retxReq ∧
    (statusWord s).getLsbD 9 = s.status.req.rstReq ∧
    (statusWord s).getLsbD 10 = s.status.req.flushReq ∧
    (statusWord s).getLsbD 11 = s.status.req.emptyReq ∧
    (statusWord s).getLsbD 12 = s.status.req.connectReq ∧
    (statusWord s).getLsbD 13 = s.status.req.fwd ∧
    (statusWord s).getLsbD 14 = s.status.req.last ∧
    (statusWord s).getLsbD 15 = s.status.req.ackv ∧
    (statusWord s).getLsbD 16 = s.status.req.pend ∧
    (statusWord s).getLsbD 17 = s.status.req.expired ∧
    (statusWord s).getLsbD 18 = s.status.req.stampv ∧
    (statusWord s).getLsbD 19 = s.status.req.streamErr ∧
    (statusWord s).getLsbD 20 = s.status.req.closedNow ∧
    (statusWord s).getLsbD 21 = s.status.req.keepalive ∧
    (statusWord s).extractLsb' 22 2 = 0 ∧
    (statusWord s).extractLsb' 24 3 = (stateTag s).value ∧
    (statusWord s).extractLsb' 27 37 = 0

/-- 10_state.md R27: the bits of CONN as a host reads it; a host write of it is ignored, and after reset only ACTIVE
and LINGER are 1. -/
def Obligations.ConnWordLayout : Prop :=
  connWord State.reset = 3 ∧
  (∀ (s : State) (v : U64), regWrite s .conn v = s) ∧
  ∀ s : State,
    (connWord s).getLsbD 0 = s.conn.active ∧
    (connWord s).getLsbD 1 = s.conn.linger ∧
    (connWord s).getLsbD 2 = s.conn.err ∧
    (connWord s).getLsbD 3 = s.conn.txSynSent ∧
    (connWord s).getLsbD 4 = s.conn.txFinSent ∧
    (connWord s).getLsbD 5 = s.conn.txEof ∧
    (connWord s).getLsbD 6 = s.conn.rxSynSeen ∧
    (connWord s).getLsbD 7 = s.conn.rxEnded ∧
    (connWord s).getLsbD 8 = s.conn.tmrRunning ∧
    (connWord s).getLsbD 9 = s.conn.segPend ∧
    (connWord s).getLsbD 10 = s.conn.txd ∧
    (connWord s).getLsbD 11 = false ∧
    (connWord s).extractLsb' 12 3 = (stateTag s).value ∧
    (connWord s).extractLsb' 15 49 = 0

/-! ## Reset and the state tag -/

/-- 10_state.md R53: the value power-on reset gives every register. The parameters are opaque, so this says nothing of
their values. The model's own hostQueue and readData are not stated (log 2, log 3). -/
def Obligations.PowerOnResetValues : Prop :=
  regRead State.reset .arg0 = 0 ∧ regRead State.reset .arg1 = 0 ∧ regRead State.reset .arg2 = 0 ∧
  regRead State.reset .res0 = 0 ∧ regRead State.reset .res1 = 0 ∧ regRead State.reset .res2 = 0 ∧
  regRead State.reset .status = 0 ∧ regRead State.reset .conn = 3 ∧
  State.reset.conn = Conn.fresh ∧ stateTag State.reset = .listen ∧
  State.reset.cfgRtoInit = Config.pRtoInit ∧ State.reset.cfgMaxRetx = Config.pMaxRetx ∧
  State.reset.cfgCapacity = Config.pCapacity ∧ State.reset.cfgTxIsn = Config.pTxIsn ∧
  State.reset.txNext = 0 ∧ State.reset.txAcked = 0 ∧ State.reset.txInflight = 0 ∧
  State.reset.txWindow = 1 ∧ State.reset.retxCount = 0 ∧
  State.reset.tmrRto = Config.pRtoInit.setWidth 64 ∧ State.reset.tmrElapsed = 0 ∧
  State.reset.timeSinceRx = 0 ∧
  State.reset.rxIsn = 0 ∧ State.reset.rxAssembled = 0 ∧ State.reset.rxBuffered = 0 ∧
  State.reset.seglSeqno = 0 ∧ State.reset.seglLen = 0

/-- 44_connection.md R181: the tag of each combination of flags, the first line that matches; its 3-bit value, and the
two places that show it (10_state.md R35). -/
def Obligations.StateTagOfFlags : Prop :=
  (Tag.listen.value = 0 ∧ Tag.synSent.value = 1 ∧ Tag.synRcvd.value = 2 ∧ Tag.established.value = 3 ∧
    Tag.finWait.value = 4 ∧ Tag.linger.value = 5 ∧ Tag.closed.value = 6 ∧ Tag.reset.value = 7) ∧
  ∀ s : State,
    (connWord s).extractLsb' 12 3 = (stateTag s).value ∧ (statusWord s).extractLsb' 24 3 = (stateTag s).value ∧
    (s.conn.active = false → stateTag s = if s.conn.err then .reset else .closed) ∧
    (s.conn.active = true →
      (s.conn.rxEnded = true → s.conn.txFinSent = true → s.txAcked = s.txNext → stateTag s = .linger) ∧
      ((s.conn.txFinSent = true ∨ s.conn.rxEnded = true) →
        ¬ (s.conn.rxEnded = true ∧ s.conn.txFinSent = true ∧ s.txAcked = s.txNext) → stateTag s = .finWait) ∧
      (s.conn.txFinSent = false → s.conn.rxEnded = false →
        stateTag s =
          if s.conn.rxSynSeen = true ∧ s.conn.txSynSent = true ∧ 1 ≤ s.txAcked.toNat then .established
          else if s.conn.rxSynSeen = true then .synRcvd
          else if s.conn.txSynSent = true then .synSent
          else .listen))

/-! ## Sequence space -/

/-- 40_seqspace.md R101: `unwrap` gives the member of the residue class nearest the checkpoint among the 64-bit values,
the smaller of two equally near; the rule's pseudocode, on exact numbers, gives the same value. -/
def Obligations.UnwrapIsNearestMember : Prop :=
  ∀ (seqno isn : U32) (cp : U64),
    (unwrap seqno isn cp).setWidth 32 = seqno - isn ∧
    (∀ x : U64, x.setWidth 32 = seqno - isn →
      |((unwrap seqno isn cp).toNat : Int) - cp.toNat| ≤ |(x.toNat : Int) - cp.toNat| ∧
      (|((unwrap seqno isn cp).toNat : Int) - cp.toNat| = |(x.toNat : Int) - cp.toNat| →
        (unwrap seqno isn cp).toNat ≤ x.toNat)) ∧
    let c : Nat := cp.toNat / 2 ^ 32 * 2 ^ 32 + (seqno - isn).toNat
    (unwrap seqno isn cp).toNat =
      if cp.toNat < c ∧ 0 < cp.toNat / 2 ^ 32 ∧ 2 ^ 31 ≤ c - cp.toNat then c - 2 ^ 32
      else if c < cp.toNat ∧ cp.toNat / 2 ^ 32 < 2 ^ 32 - 1 ∧ 2 ^ 31 < cp.toNat - c then c + 2 ^ 32
      else c

/-- 40_seqspace.md R103, laws 1 to 4 (law 5, that the functions read and write no state, is their type). -/
def Obligations.WrapUnwrapLaws : Prop :=
  (∀ (q isn : U32) (cp : U64), wrap (unwrap q isn cp) isn = q) ∧
  (∀ (n cp : U64) (isn : U32), |(n.toNat : Int) - cp.toNat| < 2 ^ 31 → unwrap (wrap n isn) isn cp = n) ∧
  (∀ (q isn : U32) (cp : U64),
    let c : U64 := cp.extractLsb' 32 32 ++ (q - isn)
    unwrap q isn cp = c - 0x100000000 ∨ unwrap q isn cp = c ∨ unwrap q isn cp = c + 0x100000000) ∧
  (∀ (q isn : U32) (cp : U64), 2 ^ 31 ≤ cp.toNat → cp.toNat ≤ 2 ^ 64 - 2 ^ 31 - 1 →
    |((unwrap q isn cp).toNat : Int) - cp.toNat| ≤ 2 ^ 31 ∧
    (|((unwrap q isn cp).toNat : Int) - cp.toNat| = 2 ^ 31 → (unwrap q isn cp).toNat = cp.toNat - 2 ^ 31))

/-- 40_seqspace.md R104-R106: WRAP, UNWRAP and SEGLEN complete in every state, write RES0 and STATUS and nothing
else. -/
def Obligations.SequenceSpaceCommands : Prop :=
  decode 0x00000001 = .ok .wrap ∧ decode 0x00000002 = .ok .unwrap ∧
  (∀ syn fin : Bool, decode (0x00000003 ||| bitAt syn 8 ||| bitAt fin 9) = .ok (.seglen syn fin)) ∧
  ∀ s : State,
    exec .wrap s = .next { s with
      res0 := BitVec.setWidth 64 (s.arg1.setWidth 32 + s.arg0.setWidth 32 : U32), status := { code := .ok, req := {} } } ∧
    exec .unwrap s = .next { s with
      res0 := unwrap (s.arg0.setWidth 32) (s.arg1.setWidth 32) s.arg2, status := { code := .ok, req := {} } } ∧
    ∀ syn fin : Bool, exec (.seglen syn fin) s = .next { s with
      res0 := BitVec.ofNat 64 (b2n syn + s.arg0.toNat % 2 ^ 32 + b2n fin), status := { code := .ok, req := {} } }

/-- 00_scope.md R11: the saturating operations. -/
def Obligations.SaturatingArithmetic : Prop :=
  (∀ a b : U64, (satAdd64 a b).toNat = min (a.toNat + b.toNat) (2 ^ 64 - 1)) ∧
  (∀ a b : U32, (satAdd32 a b).toNat = min (a.toNat + b.toNat) (2 ^ 32 - 1)) ∧
  (∀ a : U64, (satDbl64 a).toNat = min (2 * a.toNat) (2 ^ 64 - 1)) ∧
  (∀ a b : U64, (satSub64 a b).toNat = a.toNat - b.toNat)

/-! ## Timer -/

/-- 41_timer.md R127-R132: the six TMR_* commands complete in every state; each next state in full. -/
def Obligations.TimerCommands : Prop :=
  (decode 0x00000010 = .ok .tmrStart ∧ decode 0x00000011 = .ok .tmrStop ∧ decode 0x00000012 = .ok .tmrReset ∧
    decode 0x00000013 = .ok .tmrDouble ∧ decode 0x00000014 = .ok .tmrTick ∧ decode 0x00000015 = .ok .tmrQuery) ∧
  ∀ s : State,
    exec .tmrStart s = .next { s with
      tmrElapsed := 0, conn := { s.conn with tmrRunning := true }, status := { code := .ok, req := {} } } ∧
    exec .tmrStop s = .next { s with
      conn := { s.conn with tmrRunning := false }, status := { code := .ok, req := {} } } ∧
    exec .tmrReset s = .next { s with
      tmrRto := s.cfgRtoInit.setWidth 64, status := { code := .ok, req := {} } } ∧
    exec .tmrDouble s = .next { s with
      tmrRto := BitVec.ofNat 64 (min (2 * s.tmrRto.toNat) (2 ^ 64 - 1)), status := { code := .ok, req := {} } } ∧
    exec .tmrTick s = .next { s with
      tmrElapsed :=
        if s.conn.tmrRunning = true then BitVec.ofNat 64 (min (s.tmrElapsed.toNat + s.arg0.toNat) (2 ^ 64 - 1))
        else s.tmrElapsed
      status := { code := .ok, req := {} } } ∧
    exec .tmrQuery s = .next { s with
      res0 := s.tmrElapsed, res1 := s.tmrRto
      status :=
        { code := .ok
          req := { expired := decide (s.conn.tmrRunning = true ∧ s.tmrRto.toNat ≤ s.tmrElapsed.toNat) } } }

/-- 10_state.md R45, R46: TMR_RTO only doubles (saturating) between resets to CFG_RTO_INIT, and TMR_ELAPSED advances
only while the timer runs, by the operand of TMR_TICK or TICK; the commands that may do each. -/
def Obligations.RtoGrowsAndElapsedRuns : Prop :=
  ∀ (i : Instr) (s t : State), exec i s = .next t →
    (t.tmrRto = s.tmrRto ∨
      (t.tmrRto.toNat = min (2 * s.tmrRto.toNat) (2 ^ 64 - 1) ∧ i.mnemonic ∈ [Mnemonic.tmrDouble, .tick]) ∨
      (t.tmrRto = s.cfgRtoInit.setWidth 64 ∧ i.mnemonic ∈ [Mnemonic.tmrReset, .txRetire, .init])) ∧
    (t.tmrElapsed = s.tmrElapsed ∨
      (t.tmrElapsed = 0 ∧ i.mnemonic ∈ [Mnemonic.tmrStart, .txSent, .txRetire, .tick, .init]) ∨
      (s.conn.tmrRunning = true ∧ t.tmrElapsed.toNat = min (s.tmrElapsed.toNat + s.arg0.toNat) (2 ^ 64 - 1) ∧
        i.mnemonic ∈ [Mnemonic.tmrTick, .tick]))

/-! ## Sender -/

/-- 42_sender_tracking.md R141: TX_SENT's refusals and, when none applies, its next state in full. The premise
TX_INFLIGHT ≤ TX_NEXT is an invariant (10_state.md R55, EveryStepKeepsInvariants): the sum then fits its register. -/
def Obligations.TxSentOutcome : Prop :=
  (∀ syn fin : Bool, decode (0x00000023 ||| bitAt syn 8 ||| bitAt fin 9) = .ok (.txSent syn fin)) ∧
  ∀ (syn fin : Bool) (s : State),
    let len := b2n syn + s.arg0.toNat % 2 ^ 32 + b2n fin
    (s.conn.active = false →
      exec (.txSent syn fin) s = .next { s with status := { code := .einactive, req := {} } }) ∧
    (s.conn.active = true →
      (len = 0 ∨ s.conn.txFinSent = true ∨ (syn = true ∧ s.conn.txSynSent = true) ∨
        (syn = false ∧ s.conn.txSynSent = false) ∨ 2 ^ 64 - 1 < s.txNext.toNat + len) →
      exec (.txSent syn fin) s = .next { s with status := { code := .einval, req := {} } }) ∧
    (s.conn.active = true → len ≠ 0 → s.conn.txFinSent = false → syn ≠ s.conn.txSynSent →
      s.txNext.toNat + len ≤ 2 ^ 64 - 1 → s.txInflight.toNat ≤ s.txNext.toNat →
      exec (.txSent syn fin) s = .next { s with
        res0 := s.txNext
        res1 := BitVec.setWidth 64 (s.cfgTxIsn + s.txNext.setWidth 32 : U32)
        txNext := BitVec.ofNat 64 (s.txNext.toNat + len)
        txInflight := BitVec.ofNat 64 (s.txInflight.toNat + len)
        tmrElapsed := if s.conn.tmrRunning = true then s.tmrElapsed else 0
        conn :=
          { s.conn with
            txSynSent := true, txFinSent := fin, txEof := s.conn.txEof || fin, tmrRunning := true, txd := true }
        status := { code := .ok, req := {} } })

/-- 42_sender_tracking.md R142: TX_RETIRE's refusals and, when none applies, its next state in full. The premise
TX_ACKED ≤ TX_NEXT is an invariant (10_state.md R55, EveryStepKeepsInvariants): TX_NEXT - TX_ACKED is then a number. -/
def Obligations.TxRetireOutcome : Prop :=
  decode 0x00000024 = .ok .txRetire ∧
  ∀ s : State,
    (s.conn.active = false → exec .txRetire s = .next { s with status := { code := .einactive, req := {} } }) ∧
    (s.conn.active = true → s.txAcked.toNat ≤ s.txNext.toNat →
      (s.txInflight.toNat < s.arg0.toNat ∨
        (s.txInflight.toNat : Int) - s.arg0.toNat < (s.txNext.toNat : Int) - s.txAcked.toNat) →
      exec .txRetire s = .next { s with status := { code := .einval, req := {} } }) ∧
    (s.conn.active = true → s.txAcked.toNat ≤ s.txNext.toNat → s.arg0.toNat ≤ s.txInflight.toNat →
      (s.txNext.toNat : Int) - s.txAcked.toNat ≤ (s.txInflight.toNat : Int) - s.arg0.toNat →
      exec .txRetire s = .next { s with
        txInflight := s.txInflight - s.arg0
        retxCount := if s.arg0 = 0 then s.retxCount else 0
        tmrRto := if s.arg0 = 0 then s.tmrRto else s.cfgRtoInit.setWidth 64
        tmrElapsed := if s.arg0 = 0 then s.tmrElapsed else 0
        conn :=
          { s.conn with
            tmrRunning :=
              if s.txInflight = s.arg0 then false else if s.arg0 = 0 then s.conn.tmrRunning else true }
        status := { code := .ok, req := {} } })

/-- 42_sender_tracking.md R143: TX_EOF's refusal and its next state. -/
def Obligations.TxEofOutcome : Prop :=
  decode 0x00000025 = .ok .txEof ∧
  ∀ s : State,
    (s.conn.active = false → exec .txEof s = .next { s with status := { code := .einactive, req := {} } }) ∧
    (s.conn.active = true →
      exec .txEof s = .next { s with
        conn := { s.conn with txEof := true }, status := { code := .ok, req := {} } })

/-! ## Receiver -/

/-- 43_receiver_feedback.md R163: RX_STATUS's four refusals and, when none applies, its next state in full. -/
def Obligations.RxStatusOutcome : Prop :=
  (∀ e : Bool, decode (0x00000022 ||| bitAt e 12) = .ok (.rxStatus e)) ∧
  ∀ (e : Bool) (s : State),
    ((s.conn.rxSynSeen = false ∧ (s.arg0 ≠ 0 ∨ s.arg1 ≠ 0 ∨ e = true)) ∨ s.arg0.toNat < s.rxAssembled.toNat ∨
        s.arg0.toNat < s.arg1.toNat ∨ (s.conn.rxEnded = true ∧ (e = false ∨ s.arg0 ≠ s.rxAssembled)) →
      exec (.rxStatus e) s = .next { s with status := { code := .einval, req := {} } }) ∧
    ((s.conn.rxSynSeen = true ∨ (s.arg0 = 0 ∧ s.arg1 = 0 ∧ e = false)) → s.rxAssembled.toNat ≤ s.arg0.toNat →
      s.arg1.toNat ≤ s.arg0.toNat → (s.conn.rxEnded = false ∨ (e = true ∧ s.arg0 = s.rxAssembled)) →
      exec (.rxStatus e) s = .next { s with
        rxAssembled := s.arg0
        rxBuffered := s.arg1
        conn := { s.conn with rxEnded := s.conn.rxEnded || e }
        status := { code := .ok, req := {} } })

/-- 43_receiver_feedback.md R164, with R160-R162: STAMP completes in every state; its next state in full. -/
def Obligations.StampOutcome : Prop :=
  decode 0x00000029 = .ok .stamp ∧
  ∀ s : State,
    (s.conn.rxSynSeen = false →
      exec .stamp s = .next { s with
        res0 := 0, res1 := 0
        res2 := BitVec.setWidth 64 (s.cfgTxIsn + s.txNext.setWidth 32 : U32)
        conn := { s.conn with txd := true }
        status := { code := .ok, req := {} } }) ∧
    (s.conn.rxSynSeen = true →
      exec .stamp s = .next { s with
        res0 :=
          BitVec.setWidth 64
            (s.rxIsn + BitVec.ofNat 32 (s.rxAssembled.toNat + 1 + b2n s.conn.rxEnded) : U32)
        res1 := BitVec.ofNat 64 (min (s.cfgCapacity.toNat - s.rxBuffered.toNat) 65535)
        res2 := BitVec.setWidth 64 (s.cfgTxIsn + s.txNext.setWidth 32 : U32)
        conn := { s.conn with txd := true }
        status := { code := .ok, req := { stampv := true } } })

/-! ## Connection -/

/-- 44_connection.md R182: NOP leaves every register but STATUS unchanged, and STATUS = STATE << 24. -/
def Obligations.NopOutcome : Prop :=
  decode 0x00000000 = .ok .nop ∧
  ∀ s : State, ∃ t, exec .nop s = .next t ∧ t = { s with status := { code := .ok, req := {} } } ∧
    statusWord t = (stateTag s).value.setWidth 64 <<< 24

/-- 44_connection.md R183, with R140 and R165: SEG_RX's refusals, its RST path, its discard path, and the processing of
every other segment, each next state in full. -/
def Obligations.SegRxOutcome : Prop :=
  (∀ (syn fin rst ack : Bool) (win : U16),
    decode (win.setWidth 32 <<< 16 ||| bitAt ack 11 ||| bitAt rst 10 ||| bitAt fin 9 ||| bitAt syn 8 ||| 0x20) =
      .ok (.segRx syn fin rst ack win)) ∧
  ∀ (syn fin rst ack : Bool) (win : U16) (s : State),
    (s.conn.segPend = true →
      exec (.segRx syn fin rst ack win) s = .next { s with status := { code := .eseq, req := {} } }) ∧
    (s.conn.segPend = false → s.conn.active = false →
      exec (.segRx syn fin rst ack win) s = .next { s with status := { code := .einactive, req := {} } }) ∧
    (s.conn.segPend = false → s.conn.active = true → rst = true →
      exec (.segRx syn fin rst ack win) s = .next { s with
        timeSinceRx := 0
        conn := { s.conn with active := false, err := true }
        status := { code := .ok, req := { streamErr := true, closedNow := true } } }) ∧
    (s.conn.segPend = false → s.conn.active = true → rst = false → s.conn.rxSynSeen = false → syn = false →
      exec (.segRx syn fin rst ack win) s = .next { s with
        timeSinceRx := 0, status := { code := .ok, req := {} } }) ∧
    (s.conn.segPend = false → s.conn.active = true → rst = false → (s.conn.rxSynSeen = true ∨ syn = true) →
      let seqno : U32 := s.arg0.extractLsb' 0 32
      let isn : U32 := if s.conn.rxSynSeen = true then s.rxIsn else seqno
      let abs := unwrap seqno isn (s.rxAssembled + 1)
      let fwd : Bool := syn || abs != 0
      let ackAt := unwrap (s.arg0.extractLsb' 32 32) s.cfgTxIsn s.txNext
      let accepted : Bool :=
        ack && decide (s.txAcked.toNat ≤ ackAt.toNat) && decide (ackAt.toNat ≤ s.txNext.toNat)
      exec (.segRx syn fin rst ack win) s = .next { s with
        timeSinceRx := 0
        rxIsn := isn
        res0 := if syn = true then 0 else if abs = 0 then 0 else abs - 1
        res1 := if ack = true then ackAt else 0
        txAcked := if accepted = true then ackAt else s.txAcked
        txWindow := if accepted = true then win else s.txWindow
        seglSeqno := seqno
        seglLen := BitVec.ofNat 64 (b2n syn + s.arg1.toNat % 2 ^ 32 + b2n fin)
        conn := { s.conn with rxSynSeen := true, segPend := true, txd := false }
        status :=
          { code := .ok
            req :=
              { fwd := fwd, last := fwd && fin, ackv := accepted
                connectReq := syn && !s.conn.txSynSent, pend := true } } })

/-- 44_connection.md R184, with R180, R185 and R186: SEG_END's refusal and its next state in full. -/
def Obligations.SegEndOutcome : Prop :=
  decode 0x00000021 = .ok .segEnd ∧
  ∀ s : State,
    (s.conn.segPend = false → exec .segEnd s = .next { s with status := { code := .eseq, req := {} } }) ∧
    (s.conn.segPend = true →
      let linger : Bool := s.conn.linger && !(s.conn.rxEnded && !s.conn.txEof)
      let expected : U32 := s.rxIsn + BitVec.ofNat 32 (s.rxAssembled.toNat + 1 + b2n s.conn.rxEnded)
      let ka : Bool := s.conn.rxSynSeen && s.seglLen == 0 && s.seglSeqno == expected - 1
      let need : Bool := s.seglLen != 0 && !s.conn.txd
      let closes := closesCleanly s linger s.timeSinceRx.toNat
      exec .segEnd s = .next { s with
        conn := { s.conn with segPend := false, linger := linger, active := s.conn.active && !closes }
        status := { code := .ok, req := { emptyReq := ka || need, keepalive := ka, closedNow := closes } } })

/-- 44_connection.md R187: TICK's refusals, the retransmission limit, and otherwise the retransmission and the shutdown
check, each next state in full; at most one expiry whatever dt is. -/
def Obligations.TickOutcome : Prop :=
  decode 0x00000026 = .ok .tick ∧
  ∀ s : State,
    (s.conn.segPend = true → exec .tick s = .next { s with status := { code := .eseq, req := {} } }) ∧
    (s.conn.segPend = false → s.conn.active = false →
      exec .tick s = .next { s with status := { code := .einactive, req := {} } }) ∧
    (s.conn.segPend = false → s.conn.active = true →
      let sinceRx := satAdd64 s.timeSinceRx s.arg0
      let elapsed := if s.conn.tmrRunning = true then satAdd64 s.tmrElapsed s.arg0 else s.tmrElapsed
      let fired : Bool := s.conn.tmrRunning && decide (s.tmrRto.toNat ≤ elapsed.toNat)
      let resend : Bool := fired && s.txInflight != 0
      let counts : Bool := resend && s.txWindow != 0
      let count := if counts = true then satAdd32 s.retxCount 1 else s.retxCount
      let rto := if counts = true then satDbl64 s.tmrRto else s.tmrRto
      let running : Bool := s.conn.tmrRunning && !(fired && s.txInflight == 0)
      let closes := closesCleanly s s.conn.linger sinceRx.toNat
      exec .tick s = .next
        (if s.cfgMaxRetx.toNat < count.toNat then
          { s with
            timeSinceRx := sinceRx, tmrElapsed := if resend = true then 0 else elapsed, tmrRto := rto
            retxCount := count
            conn := { s.conn with tmrRunning := running, active := false, err := true }
            status :=
              { code := .ok
                req :=
                  { expired := fired, flushReq := true, rstReq := true, streamErr := true, closedNow := true } } }
         else
          { s with
            timeSinceRx := sinceRx, tmrElapsed := if resend = true then 0 else elapsed, tmrRto := rto
            retxCount := count
            conn := { s.conn with tmrRunning := running, active := !closes }
            status := { code := .ok, req := { expired := fired, retxReq := resend, closedNow := closes } } }))

/-- 44_connection.md R188, with R180: EVAL's refusals and its next state in full. -/
def Obligations.EvalOutcome : Prop :=
  decode 0x00000027 = .ok .eval ∧
  ∀ s : State,
    (s.conn.segPend = true → exec .eval s = .next { s with status := { code := .eseq, req := {} } }) ∧
    (s.conn.segPend = false → s.conn.active = false →
      exec .eval s = .next { s with status := { code := .einactive, req := {} } }) ∧
    (s.conn.segPend = false → s.conn.active = true →
      let closes := closesCleanly s s.conn.linger s.timeSinceRx.toNat
      exec .eval s = .next { s with
        conn := { s.conn with active := !closes }
        status := { code := .ok, req := { closedNow := closes } } })

/-- 44_connection.md R189: CLOSE on a live connection and on an inactive one. -/
def Obligations.CloseOutcome : Prop :=
  decode 0x00000028 = .ok .close ∧
  ∀ s : State,
    (s.conn.active = true →
      exec .close s = .next { s with
        conn := { s.conn with active := false, err := true, segPend := false }
        status := { code := .ok, req := { rstReq := true, streamErr := true, closedNow := true } } }) ∧
    (s.conn.active = false → exec .close s = .next { s with status := { code := .ok, req := {} } })

/-- 44_connection.md R190: INIT's refusal and its next state in full. -/
def Obligations.InitOutcome : Prop :=
  decode 0x0000002A = .ok .init ∧
  ∀ s : State,
    (s.conn.active = true → exec .init s = .next { s with status := { code := .einval, req := {} } }) ∧
    (s.conn.active = false →
      exec .init s = .next { s with
        conn :=
          { active := true, linger := true, err := false, txSynSent := false, txFinSent := false, txEof := false
            rxSynSeen := false, rxEnded := false, tmrRunning := false, segPend := false, txd := false }
        txNext := 0, txAcked := 0, txInflight := 0, txWindow := 1, retxCount := 0
        tmrRto := s.cfgRtoInit.setWidth 64, tmrElapsed := 0, timeSinceRx := 0
        rxIsn := 0, rxAssembled := 0, rxBuffered := 0, seglSeqno := 0, seglLen := 0
        status := { code := .ok, req := {} } })

/-- 70_reset_and_hazards.md R251: INIT on a closed connection gives the connection registers and STATUS their power-on
values, but TMR_RTO takes the current CFG_RTO_INIT and CFG, ARG and RES keep theirs; on a live one it is refused. -/
def Obligations.InitRestoresPowerOnState : Prop :=
  ∀ s : State,
    (s.conn.active = false →
      exec .init s = .next { State.reset with
        arg0 := s.arg0, arg1 := s.arg1, arg2 := s.arg2, res0 := s.res0, res1 := s.res1, res2 := s.res2
        cfgRtoInit := s.cfgRtoInit, cfgMaxRetx := s.cfgMaxRetx, cfgCapacity := s.cfgCapacity, cfgTxIsn := s.cfgTxIsn
        tmrRto := s.cfgRtoInit.setWidth 64, hostQueue := s.hostQueue, readData := s.readData }) ∧
    (∀ t, exec .init s = .next t → s.conn.active = false → statusWord t = 0 ∧ statusWord State.reset = 0) ∧
    (s.conn.active = true → exec .init s = .next { s with status := { code := .einval, req := {} } })

/-! ## Whole-machine rules -/

/-- 60_exceptions.md R224: a command that ends with a code other than OK, an illegal word included, has no effect but
STATUS, which then shows no request bit and the state of before. -/
def Obligations.RefusedCommandChangesOnlyStatus : Prop :=
  ∀ (s t : State) (v : U64) (rest : List HostAccess),
    s.hostQueue = .write 0x00 8 v :: rest → step s = .next t → t.status.code ≠ .ok →
    t = { s with hostQueue := rest, status := { code := t.status.code, req := {} } } ∧ stateTag t = stateTag s

/-- 60_exceptions.md R220: the value of each code in STATUS, and which commands raise it and when. -/
def Obligations.CompletionCodes : Prop :=
  (∀ s : State,
    (statusWord s).extractLsb' 0 8 =
      match s.status.code with
      | .ok => 0
      | .eopc => 1
      | .einval => 2
      | .einactive => 3
      | .eseq => 4) ∧
  (∀ (s t : State) (v : U64) (rest : List HostAccess),
    s.hostQueue = .write 0x00 8 v :: rest → step s = .next t →
    (t.status.code = .eopc ↔ ∃ e, decode (low32 v) = .error e)) ∧
  (∀ (i : Instr) (s t : State), exec i s = .next t →
    (t.status.code = .einval → i.mnemonic ∈ [Mnemonic.txSent, .txRetire, .rxStatus, .init]) ∧
    (t.status.code = .einactive →
      i.mnemonic ∈ [Mnemonic.txSent, .txRetire, .txEof, .segRx, .tick, .eval] ∧ s.conn.active = false) ∧
    (t.status.code = .eseq →
      (i.mnemonic ∈ [Mnemonic.segRx, .tick, .eval] ∧ s.conn.segPend = true) ∨
        (i.mnemonic = .segEnd ∧ s.conn.segPend = false))) ∧
  (∀ m ∈ [Mnemonic.txSent, .txRetire, .rxStatus, .init],
    ∃ (i : Instr) (s t : State), i.mnemonic = m ∧ exec i s = .next t ∧ t.status.code = .einval) ∧
  (∀ (i : Instr) (s t : State), i.mnemonic ∈ [Mnemonic.txSent, .txRetire, .txEof, .segRx, .tick, .eval] →
    s.conn.active = false → s.conn.segPend = false → exec i s = .next t → t.status.code = .einactive) ∧
  (∀ (i : Instr) (s t : State),
    (i.mnemonic ∈ [Mnemonic.segRx, .tick, .eval] ∧ s.conn.segPend = true) ∨
      (i.mnemonic = .segEnd ∧ s.conn.segPend = false) →
    exec i s = .next t → t.status.code = .eseq) ∧
  (∀ m : Mnemonic, ∃ (i : Instr) (s t : State), i.mnemonic = m ∧ exec i s = .next t ∧ t.status.code = .ok)

/-- 10_state.md R52: which commands set and which clear each flag. -/
def Obligations.FlagWriters : Prop :=
  ∀ (i : Instr) (s t : State), exec i s = .next t →
    (s.conn.active = false → t.conn.active = true → i.mnemonic = .init) ∧
    (s.conn.active = true → t.conn.active = false →
      (∃ syn fin ack win, i = .segRx syn fin true ack win) ∨
        i.mnemonic ∈ [Mnemonic.segEnd, .tick, .eval, .close]) ∧
    (s.conn.linger = false → t.conn.linger = true → i.mnemonic = .init) ∧
    (s.conn.linger = true → t.conn.linger = false → i.mnemonic = .segEnd) ∧
    (s.conn.err = false → t.conn.err = true →
      (∃ syn fin ack win, i = .segRx syn fin true ack win) ∨ i.mnemonic ∈ [Mnemonic.tick, .close]) ∧
    (s.conn.err = true → t.conn.err = false → i.mnemonic = .init) ∧
    (s.conn.txSynSent = false → t.conn.txSynSent = true → i.mnemonic = .txSent) ∧
    (s.conn.txSynSent = true → t.conn.txSynSent = false → i.mnemonic = .init) ∧
    (s.conn.txFinSent = false → t.conn.txFinSent = true → i.mnemonic = .txSent) ∧
    (s.conn.txFinSent = true → t.conn.txFinSent = false → i.mnemonic = .init) ∧
    (s.conn.txEof = false → t.conn.txEof = true → i.mnemonic ∈ [Mnemonic.txSent, .txEof]) ∧
    (s.conn.txEof = true → t.conn.txEof = false → i.mnemonic = .init) ∧
    (s.conn.rxSynSeen = false → t.conn.rxSynSeen = true → i.mnemonic = .segRx) ∧
    (s.conn.rxSynSeen = true → t.conn.rxSynSeen = false → i.mnemonic = .init) ∧
    (s.conn.rxEnded = false → t.conn.rxEnded = true → i.mnemonic = .rxStatus) ∧
    (s.conn.rxEnded = true → t.conn.rxEnded = false → i.mnemonic = .init) ∧
    (s.conn.tmrRunning = false → t.conn.tmrRunning = true →
      i.mnemonic ∈ [Mnemonic.txSent, .txRetire, .tick, .tmrStart]) ∧
    (s.conn.tmrRunning = true → t.conn.tmrRunning = false →
      i.mnemonic ∈ [Mnemonic.txRetire, .tick, .init, .tmrStop]) ∧
    (s.conn.segPend = false → t.conn.segPend = true → i.mnemonic = .segRx) ∧
    (s.conn.segPend = true → t.conn.segPend = false → i.mnemonic ∈ [Mnemonic.segEnd, .close, .init]) ∧
    (s.conn.txd = false → t.conn.txd = true → i.mnemonic ∈ [Mnemonic.txSent, .stamp]) ∧
    (s.conn.txd = true → t.conn.txd = false → i.mnemonic ∈ [Mnemonic.segRx, .init])

/-- No command writes ARG0-ARG2, a CFG register or the host's side of the window, and every other register is written
only by the commands whose rules name it (10_state.md R24, R25, R36-R51; INIT writes the connection registers,
44_connection.md R190). -/
def Obligations.RegisterWriters : Prop :=
  ∀ (i : Instr) (s t : State), exec i s = .next t →
    t.arg0 = s.arg0 ∧ t.arg1 = s.arg1 ∧ t.arg2 = s.arg2 ∧
    t.cfgRtoInit = s.cfgRtoInit ∧ t.cfgMaxRetx = s.cfgMaxRetx ∧ t.cfgCapacity = s.cfgCapacity ∧
    t.cfgTxIsn = s.cfgTxIsn ∧ t.hostQueue = s.hostQueue ∧ t.readData = s.readData ∧
    (t.res0 ≠ s.res0 → i.mnemonic ∈ [Mnemonic.wrap, .unwrap, .seglen, .tmrQuery, .segRx, .txSent, .stamp]) ∧
    (t.res1 ≠ s.res1 → i.mnemonic ∈ [Mnemonic.tmrQuery, .segRx, .txSent, .stamp]) ∧
    (t.res2 ≠ s.res2 → i.mnemonic = .stamp) ∧
    (t.txNext ≠ s.txNext → i.mnemonic ∈ [Mnemonic.txSent, .init]) ∧
    (t.txAcked ≠ s.txAcked → i.mnemonic ∈ [Mnemonic.segRx, .init]) ∧
    (t.txInflight ≠ s.txInflight → i.mnemonic ∈ [Mnemonic.txSent, .txRetire, .init]) ∧
    (t.txWindow ≠ s.txWindow → i.mnemonic ∈ [Mnemonic.segRx, .init]) ∧
    (t.retxCount ≠ s.retxCount → i.mnemonic ∈ [Mnemonic.txRetire, .tick, .init]) ∧
    (t.tmrRto ≠ s.tmrRto → i.mnemonic ∈ [Mnemonic.tmrReset, .tmrDouble, .txRetire, .tick, .init]) ∧
    (t.tmrElapsed ≠ s.tmrElapsed →
      i.mnemonic ∈ [Mnemonic.tmrStart, .tmrTick, .txSent, .txRetire, .tick, .init]) ∧
    (t.timeSinceRx ≠ s.timeSinceRx → i.mnemonic ∈ [Mnemonic.segRx, .tick, .init]) ∧
    (t.rxIsn ≠ s.rxIsn → i.mnemonic ∈ [Mnemonic.segRx, .init]) ∧
    (t.rxAssembled ≠ s.rxAssembled → i.mnemonic ∈ [Mnemonic.rxStatus, .init]) ∧
    (t.rxBuffered ≠ s.rxBuffered → i.mnemonic ∈ [Mnemonic.rxStatus, .init]) ∧
    (t.seglSeqno ≠ s.seglSeqno → i.mnemonic ∈ [Mnemonic.segRx, .init]) ∧
    (t.seglLen ≠ s.seglLen → i.mnemonic ∈ [Mnemonic.segRx, .init])

/-- 30_encoding.md R83: the bits of ARG0-ARG2 that a command does not name have no effect on it: changing them changes
nothing of the next state but those operand registers. -/
def Obligations.UnnamedOperandBitsIgnored : Prop :=
  ∀ (i : Instr) (s t : State) (a0 a1 a2 : U64),
    a0 &&& (operandBits i.mnemonic).1 = s.arg0 &&& (operandBits i.mnemonic).1 →
    a1 &&& (operandBits i.mnemonic).2.1 = s.arg1 &&& (operandBits i.mnemonic).2.1 →
    a2 &&& (operandBits i.mnemonic).2.2 = s.arg2 &&& (operandBits i.mnemonic).2.2 →
    exec i s = .next t →
    exec i { s with arg0 := a0, arg1 := a1, arg2 := a2 } = .next { t with arg0 := a0, arg1 := a1, arg2 := a2 }

/-- An inactive connection stays as it is until INIT: "terminal for the connection" (60_exceptions.md R223; 10_state.md
R28, R30; 92_eei_decisions.md D22, D32). What may still change is RX_ENDED (RX_STATUS), TMR_RUNNING (TMR_*) and TXD
(STAMP). The invariants of 10_state.md R55 are the premise: no segment is pending on an inactive connection. -/
def Obligations.InactiveConnectionIsTerminal : Prop :=
  ∀ (i : Instr) (s t : State), Inv s → s.conn.active = false → i ≠ .init → exec i s = .next t →
    t.conn = { s.conn with rxEnded := t.conn.rxEnded, tmrRunning := t.conn.tmrRunning, txd := t.conn.txd } ∧
    stateTag t = stateTag s ∧
    t.txNext = s.txNext ∧ t.txAcked = s.txAcked ∧ t.txInflight = s.txInflight ∧ t.txWindow = s.txWindow ∧
    t.retxCount = s.retxCount ∧ t.timeSinceRx = s.timeSinceRx ∧ t.rxIsn = s.rxIsn ∧
    t.seglSeqno = s.seglSeqno ∧ t.seglLen = s.seglLen

/-- 44_connection.md R192, the opening rows: LISTEN, SYN_SENT, SYN_RCVD and ESTABLISHED, and the events that leave
them. SYN_SENT is stated with the invariant that no acknowledgment is accepted before the peer's SYN
(SynBeforeAck). The row SYN_RCVD to ESTABLISHED is three facts that chain, because a host sends its SYN while the
peer's SYN segment is pending and finishes that segment first (70_reset_and_hazards.md R262 HD3, HD5): the SYN leaves
SYN_RCVD with TX_SYN_SENT = 1; the commands a host issues in between keep both; an accepted acknowledgment then
establishes. -/
def Obligations.OpeningTransitions : Prop :=
  (∀ s t : State, stateTag s = .listen → exec (.txSent true false) s = .next t → t.status.code = .ok →
    stateTag t = .synSent) ∧
  (∀ (s t : State) (fin ack : Bool) (win : U16), stateTag s = .listen →
    exec (.segRx true fin false ack win) s = .next t → t.status.code = .ok →
    stateTag t = .synRcvd ∧ t.status.req.connectReq = true) ∧
  (∀ (s t : State) (fin : Bool) (win : U16), stateTag s = .synSent →
    exec (.segRx true fin false true win) s = .next t → t.status.code = .ok → t.status.req.ackv = true →
    1 ≤ t.txAcked.toNat → stateTag t = .established) ∧
  (∀ (s t : State) (fin ack : Bool) (win : U16), SynBeforeAck s → stateTag s = .synSent →
    exec (.segRx true fin false ack win) s = .next t → t.status.code = .ok → t.status.req.ackv = false →
    stateTag t = .synRcvd) ∧
  (∀ s t : State, Inv s → stateTag s = .synRcvd → exec (.txSent true false) s = .next t → t.status.code = .ok →
    stateTag t = .synRcvd ∧ t.conn.txSynSent = true ∧ t.conn.segPend = s.conn.segPend) ∧
  (∀ (i : Instr) (s t : State), stateTag s = .synRcvd →
    i.mnemonic ∉ [Mnemonic.segRx, .txSent, .tick, .close] → i ≠ .rxStatus true → exec i s = .next t →
    stateTag t = .synRcvd ∧ t.conn.txSynSent = s.conn.txSynSent) ∧
  (∀ (s t : State) (syn fin : Bool) (win : U16), stateTag s = .synRcvd → s.conn.txSynSent = true →
    exec (.segRx syn fin false true win) s = .next t → t.status.code = .ok → t.status.req.ackv = true →
    1 ≤ t.txAcked.toNat → stateTag t = .established) ∧
  (∀ (s t u : State) (syn fin : Bool) (win : U16), stateTag s = .synRcvd →
    exec (.txSent true false) s = .next t → t.status.code = .ok →
    ∀ (a0 a1 : U64) (v w : State), exec .stamp t = .next v →
    exec .segEnd v = .next w → exec (.segRx syn fin false true win) { w with arg0 := a0, arg1 := a1 } = .next u →
    u.status.code = .ok → u.status.req.ackv = true → 1 ≤ u.txAcked.toNat → stateTag u = .established)

/-- 44_connection.md R192, the closing rows: ESTABLISHED, FIN_WAIT, LINGER and the ends of the connection. The rows to
LINGER and CLOSED have the invariants of 10_state.md R55 as a premise. The row FIN_WAIT to LINGER: RX_STATUS.E ends the
inbound stream after the own FIN is acknowledged; SEG_RX.A acknowledges TX_NEXT, the own FIN included, after the inbound
stream has ended; no other command reaches LINGER, and a TX_SENT that completes stays in FIN_WAIT, since its sequence
numbers are not acknowledged yet. The count a TICK compares with CFG_MAX_RETX is the one its own expiry leaves. -/
def Obligations.ClosingTransitions : Prop :=
  (∀ (s t : State), stateTag s = .established → exec (.txSent false true) s = .next t → t.status.code = .ok →
    stateTag t = .finWait) ∧
  (∀ (s t : State), stateTag s = .established → exec (.rxStatus true) s = .next t → t.status.code = .ok →
    stateTag t = .finWait) ∧
  (∀ s t : State, stateTag s = .finWait → s.conn.txFinSent = true → s.txAcked = s.txNext →
    exec (.rxStatus true) s = .next t → t.status.code = .ok → stateTag t = .linger) ∧
  (∀ (s t : State) (syn fin : Bool) (win : U16), Inv s → stateTag s = .finWait → s.conn.txFinSent = true →
    s.conn.rxEnded = true → s.arg0.extractLsb' 32 32 = wrap s.txNext s.cfgTxIsn →
    exec (.segRx syn fin false true win) s = .next t → t.status.code = .ok →
    stateTag t = .linger ∧ t.status.req.ackv = true ∧ t.txAcked = s.txNext) ∧
  (∀ (s t : State) (syn fin : Bool), Inv s → stateTag s = .finWait → exec (.txSent syn fin) s = .next t →
    t.status.code = .ok → stateTag t = .finWait) ∧
  (∀ (i : Instr) (s t : State), Inv s → stateTag s = .finWait → exec i s = .next t → stateTag t = .linger →
    (∃ syn fin win, i = .segRx syn fin false true win) ∨ i = .rxStatus true) ∧
  (∀ (i : Instr) (s t : State), i.mnemonic ∈ [Mnemonic.segEnd, .tick, .eval] → Inv s → stateTag s = .linger →
    s.conn.linger = false → exec i s = .next t → (i = .tick → t.retxCount.toNat ≤ s.cfgMaxRetx.toNat) →
    t.status.code = .ok → stateTag t = .closed ∧ t.status.req.closedNow = true) ∧
  (∀ (s t : State), Inv s → stateTag s = .linger →
    10 * s.cfgRtoInit.toNat ≤ (satAdd64 s.timeSinceRx s.arg0).toNat →
    exec .tick s = .next t → t.retxCount.toNat ≤ s.cfgMaxRetx.toNat → t.status.code = .ok → stateTag t = .closed) ∧
  (∀ (s t : State) (syn fin ack : Bool) (win : U16), s.conn.active = true →
    exec (.segRx syn fin true ack win) s = .next t → t.status.code = .ok → stateTag t = .reset) ∧
  (∀ s t : State, exec .tick s = .next t → t.status.code = .ok → s.cfgMaxRetx.toNat < t.retxCount.toNat →
    stateTag t = .reset) ∧
  (∀ s t : State, s.conn.active = true → exec .close s = .next t → stateTag t = .reset) ∧
  (∀ s t : State, stateTag s = .closed ∨ stateTag s = .reset → exec .init s = .next t → stateTag t = .listen)

/-! ## Invariants and runs -/

/-- The invariants of 10_state.md R55 hold after power-on reset. -/
def Obligations.ResetMeetsInvariants : Prop :=
  Inv State.reset ∧ TimerInv State.reset ∧ SynBeforeAck State.reset

/-- Every step keeps the eight invariants of 10_state.md R55, from every state that meets them. -/
def Obligations.EveryStepKeepsInvariants : Prop :=
  ∀ s t : State, Inv s → step s = .next t → Inv t

/-- Every step keeps the invariant that no acknowledgment is accepted before the peer's SYN. -/
def Obligations.EveryStepKeepsSynBeforeAck : Prop :=
  ∀ s t : State, SynBeforeAck s → step s = .next t → SynBeforeAck t

/-- Every command that is not a TMR_* command keeps "a running timer implies outstanding data" (10_state.md R55). -/
def Obligations.NonTimerCommandsKeepTimerInvariant : Prop :=
  ∀ (i : Instr) (s t : State),
    i.mnemonic ∉ [Mnemonic.tmrStart, .tmrStop, .tmrReset, .tmrDouble, .tmrTick, .tmrQuery] →
    Inv s → TimerInv s → exec i s = .next t → TimerInv t

/-- 10_state.md R55: in every reachable state, whatever the host does, the eight invariants hold; a running timer
implies outstanding data in every state reached without a TMR_* command, and not in every state reached with one. -/
def Obligations.ReachableStatesKeepInvariants : Prop :=
  (∀ s : State, Reachable s → Inv s) ∧
  (∀ s : State, ReachableBy (fun a => usesTimerCommand a = false) s → TimerInv s) ∧
  (∃ s : State, Reachable s ∧ ¬ TimerInv s)

/-- A connection whose outstanding data is never acknowledged backs off and reaches the retransmission limit
(10_state.md R43, 44_connection.md R187, 90_conflicts.md C6): each expiring TICK counts one and keeps the connection
alive until the count passes CFG_MAX_RETX, and that TICK ends it with an RST. -/
def Obligations.UnansweredDataReachesTheLimit : Prop :=
  ∀ s : State, s.conn.active = true → s.conn.segPend = false → s.conn.tmrRunning = true →
    s.txInflight ≠ 0 → s.txWindow ≠ 0 → s.txAcked ≠ s.txNext → s.retxCount.toNat ≤ s.cfgMaxRetx.toNat →
    s.cfgMaxRetx.toNat < 2 ^ 32 - 1 →
    (∀ k, k ≤ s.cfgMaxRetx.toNat - s.retxCount.toNat → ∃ t, expiringTicks k s = .next t ∧
      t.conn.active = true ∧ t.retxCount.toNat = s.retxCount.toNat + k ∧
      t.tmrRto.toNat = min (2 ^ k * s.tmrRto.toNat) (2 ^ 64 - 1)) ∧
    ∃ t, expiringTicks (s.cfgMaxRetx.toNat - s.retxCount.toNat + 1) s = .next t ∧
      stateTag t = .reset ∧ t.retxCount.toNat = s.cfgMaxRetx.toNat + 1 ∧
      t.status.req.flushReq = true ∧ t.status.req.rstReq = true ∧ t.status.req.streamErr = true ∧
      t.status.req.closedNow = true ∧ t.status.req.retxReq = false
end

