-- ==== Sys2Proof/Laws/State.lean ====
section
/-! SUPPORT. One lemma for each field and each named update of State, true by rfl, so that no later proof unfolds an
update. -/

namespace Sys2Proof.Machine

section
variable (s : State)

@[simp] theorem withStatus_arg0 (v : Status) : (s.withStatus v).arg0 = s.arg0 := rfl
@[simp] theorem withStatus_arg1 (v : Status) : (s.withStatus v).arg1 = s.arg1 := rfl
@[simp] theorem withStatus_arg2 (v : Status) : (s.withStatus v).arg2 = s.arg2 := rfl
@[simp] theorem withStatus_res0 (v : Status) : (s.withStatus v).res0 = s.res0 := rfl
@[simp] theorem withStatus_res1 (v : Status) : (s.withStatus v).res1 = s.res1 := rfl
@[simp] theorem withStatus_res2 (v : Status) : (s.withStatus v).res2 = s.res2 := rfl
@[simp] theorem withStatus_status (v : Status) : (s.withStatus v).status = v := rfl
@[simp] theorem withStatus_conn (v : Status) : (s.withStatus v).conn = s.conn := rfl
@[simp] theorem withStatus_cfgRtoInit (v : Status) : (s.withStatus v).cfgRtoInit = s.cfgRtoInit := rfl
@[simp] theorem withStatus_cfgMaxRetx (v : Status) : (s.withStatus v).cfgMaxRetx = s.cfgMaxRetx := rfl
@[simp] theorem withStatus_cfgCapacity (v : Status) : (s.withStatus v).cfgCapacity = s.cfgCapacity := rfl
@[simp] theorem withStatus_cfgTxIsn (v : Status) : (s.withStatus v).cfgTxIsn = s.cfgTxIsn := rfl
@[simp] theorem withStatus_txNext (v : Status) : (s.withStatus v).txNext = s.txNext := rfl
@[simp] theorem withStatus_txAcked (v : Status) : (s.withStatus v).txAcked = s.txAcked := rfl
@[simp] theorem withStatus_txInflight (v : Status) : (s.withStatus v).txInflight = s.txInflight := rfl
@[simp] theorem withStatus_txWindow (v : Status) : (s.withStatus v).txWindow = s.txWindow := rfl
@[simp] theorem withStatus_retxCount (v : Status) : (s.withStatus v).retxCount = s.retxCount := rfl
@[simp] theorem withStatus_tmrRto (v : Status) : (s.withStatus v).tmrRto = s.tmrRto := rfl
@[simp] theorem withStatus_tmrElapsed (v : Status) : (s.withStatus v).tmrElapsed = s.tmrElapsed := rfl
@[simp] theorem withStatus_timeSinceRx (v : Status) : (s.withStatus v).timeSinceRx = s.timeSinceRx := rfl
@[simp] theorem withStatus_rxIsn (v : Status) : (s.withStatus v).rxIsn = s.rxIsn := rfl
@[simp] theorem withStatus_rxAssembled (v : Status) : (s.withStatus v).rxAssembled = s.rxAssembled := rfl
@[simp] theorem withStatus_rxBuffered (v : Status) : (s.withStatus v).rxBuffered = s.rxBuffered := rfl
@[simp] theorem withStatus_seglSeqno (v : Status) : (s.withStatus v).seglSeqno = s.seglSeqno := rfl
@[simp] theorem withStatus_seglLen (v : Status) : (s.withStatus v).seglLen = s.seglLen := rfl
@[simp] theorem withStatus_hostQueue (v : Status) : (s.withStatus v).hostQueue = s.hostQueue := rfl
@[simp] theorem withStatus_readData (v : Status) : (s.withStatus v).readData = s.readData := rfl

@[simp] theorem withConn_arg0 (c : Conn) : (s.withConn c).arg0 = s.arg0 := rfl
@[simp] theorem withConn_arg1 (c : Conn) : (s.withConn c).arg1 = s.arg1 := rfl
@[simp] theorem withConn_arg2 (c : Conn) : (s.withConn c).arg2 = s.arg2 := rfl
@[simp] theorem withConn_res0 (c : Conn) : (s.withConn c).res0 = s.res0 := rfl
@[simp] theorem withConn_res1 (c : Conn) : (s.withConn c).res1 = s.res1 := rfl
@[simp] theorem withConn_res2 (c : Conn) : (s.withConn c).res2 = s.res2 := rfl
@[simp] theorem withConn_status (c : Conn) : (s.withConn c).status = s.status := rfl
@[simp] theorem withConn_conn (c : Conn) : (s.withConn c).conn = c := rfl
@[simp] theorem withConn_cfgRtoInit (c : Conn) : (s.withConn c).cfgRtoInit = s.cfgRtoInit := rfl
@[simp] theorem withConn_cfgMaxRetx (c : Conn) : (s.withConn c).cfgMaxRetx = s.cfgMaxRetx := rfl
@[simp] theorem withConn_cfgCapacity (c : Conn) : (s.withConn c).cfgCapacity = s.cfgCapacity := rfl
@[simp] theorem withConn_cfgTxIsn (c : Conn) : (s.withConn c).cfgTxIsn = s.cfgTxIsn := rfl
@[simp] theorem withConn_txNext (c : Conn) : (s.withConn c).txNext = s.txNext := rfl
@[simp] theorem withConn_txAcked (c : Conn) : (s.withConn c).txAcked = s.txAcked := rfl
@[simp] theorem withConn_txInflight (c : Conn) : (s.withConn c).txInflight = s.txInflight := rfl
@[simp] theorem withConn_txWindow (c : Conn) : (s.withConn c).txWindow = s.txWindow := rfl
@[simp] theorem withConn_retxCount (c : Conn) : (s.withConn c).retxCount = s.retxCount := rfl
@[simp] theorem withConn_tmrRto (c : Conn) : (s.withConn c).tmrRto = s.tmrRto := rfl
@[simp] theorem withConn_tmrElapsed (c : Conn) : (s.withConn c).tmrElapsed = s.tmrElapsed := rfl
@[simp] theorem withConn_timeSinceRx (c : Conn) : (s.withConn c).timeSinceRx = s.timeSinceRx := rfl
@[simp] theorem withConn_rxIsn (c : Conn) : (s.withConn c).rxIsn = s.rxIsn := rfl
@[simp] theorem withConn_rxAssembled (c : Conn) : (s.withConn c).rxAssembled = s.rxAssembled := rfl
@[simp] theorem withConn_rxBuffered (c : Conn) : (s.withConn c).rxBuffered = s.rxBuffered := rfl
@[simp] theorem withConn_seglSeqno (c : Conn) : (s.withConn c).seglSeqno = s.seglSeqno := rfl
@[simp] theorem withConn_seglLen (c : Conn) : (s.withConn c).seglLen = s.seglLen := rfl
@[simp] theorem withConn_hostQueue (c : Conn) : (s.withConn c).hostQueue = s.hostQueue := rfl
@[simp] theorem withConn_readData (c : Conn) : (s.withConn c).readData = s.readData := rfl

@[simp] theorem refuse_arg0 (c : Code) : (s.refuse c).arg0 = s.arg0 := rfl
@[simp] theorem refuse_arg1 (c : Code) : (s.refuse c).arg1 = s.arg1 := rfl
@[simp] theorem refuse_arg2 (c : Code) : (s.refuse c).arg2 = s.arg2 := rfl
@[simp] theorem refuse_res0 (c : Code) : (s.refuse c).res0 = s.res0 := rfl
@[simp] theorem refuse_res1 (c : Code) : (s.refuse c).res1 = s.res1 := rfl
@[simp] theorem refuse_res2 (c : Code) : (s.refuse c).res2 = s.res2 := rfl
@[simp] theorem refuse_status (c : Code) : (s.refuse c).status = { code := c, req := {} } := rfl
@[simp] theorem refuse_conn (c : Code) : (s.refuse c).conn = s.conn := rfl
@[simp] theorem refuse_cfgRtoInit (c : Code) : (s.refuse c).cfgRtoInit = s.cfgRtoInit := rfl
@[simp] theorem refuse_cfgMaxRetx (c : Code) : (s.refuse c).cfgMaxRetx = s.cfgMaxRetx := rfl
@[simp] theorem refuse_cfgCapacity (c : Code) : (s.refuse c).cfgCapacity = s.cfgCapacity := rfl
@[simp] theorem refuse_cfgTxIsn (c : Code) : (s.refuse c).cfgTxIsn = s.cfgTxIsn := rfl
@[simp] theorem refuse_txNext (c : Code) : (s.refuse c).txNext = s.txNext := rfl
@[simp] theorem refuse_txAcked (c : Code) : (s.refuse c).txAcked = s.txAcked := rfl
@[simp] theorem refuse_txInflight (c : Code) : (s.refuse c).txInflight = s.txInflight := rfl
@[simp] theorem refuse_txWindow (c : Code) : (s.refuse c).txWindow = s.txWindow := rfl
@[simp] theorem refuse_retxCount (c : Code) : (s.refuse c).retxCount = s.retxCount := rfl
@[simp] theorem refuse_tmrRto (c : Code) : (s.refuse c).tmrRto = s.tmrRto := rfl
@[simp] theorem refuse_tmrElapsed (c : Code) : (s.refuse c).tmrElapsed = s.tmrElapsed := rfl
@[simp] theorem refuse_timeSinceRx (c : Code) : (s.refuse c).timeSinceRx = s.timeSinceRx := rfl
@[simp] theorem refuse_rxIsn (c : Code) : (s.refuse c).rxIsn = s.rxIsn := rfl
@[simp] theorem refuse_rxAssembled (c : Code) : (s.refuse c).rxAssembled = s.rxAssembled := rfl
@[simp] theorem refuse_rxBuffered (c : Code) : (s.refuse c).rxBuffered = s.rxBuffered := rfl
@[simp] theorem refuse_seglSeqno (c : Code) : (s.refuse c).seglSeqno = s.seglSeqno := rfl
@[simp] theorem refuse_seglLen (c : Code) : (s.refuse c).seglLen = s.seglLen := rfl
@[simp] theorem refuse_hostQueue (c : Code) : (s.refuse c).hostQueue = s.hostQueue := rfl
@[simp] theorem refuse_readData (c : Code) : (s.refuse c).readData = s.readData := rfl

@[simp] theorem offer_arg0 (a : HostAccess) : (s.offer a).arg0 = s.arg0 := rfl
@[simp] theorem offer_arg1 (a : HostAccess) : (s.offer a).arg1 = s.arg1 := rfl
@[simp] theorem offer_arg2 (a : HostAccess) : (s.offer a).arg2 = s.arg2 := rfl
@[simp] theorem offer_res0 (a : HostAccess) : (s.offer a).res0 = s.res0 := rfl
@[simp] theorem offer_res1 (a : HostAccess) : (s.offer a).res1 = s.res1 := rfl
@[simp] theorem offer_res2 (a : HostAccess) : (s.offer a).res2 = s.res2 := rfl
@[simp] theorem offer_status (a : HostAccess) : (s.offer a).status = s.status := rfl
@[simp] theorem offer_conn (a : HostAccess) : (s.offer a).conn = s.conn := rfl
@[simp] theorem offer_cfgRtoInit (a : HostAccess) : (s.offer a).cfgRtoInit = s.cfgRtoInit := rfl
@[simp] theorem offer_cfgMaxRetx (a : HostAccess) : (s.offer a).cfgMaxRetx = s.cfgMaxRetx := rfl
@[simp] theorem offer_cfgCapacity (a : HostAccess) : (s.offer a).cfgCapacity = s.cfgCapacity := rfl
@[simp] theorem offer_cfgTxIsn (a : HostAccess) : (s.offer a).cfgTxIsn = s.cfgTxIsn := rfl
@[simp] theorem offer_txNext (a : HostAccess) : (s.offer a).txNext = s.txNext := rfl
@[simp] theorem offer_txAcked (a : HostAccess) : (s.offer a).txAcked = s.txAcked := rfl
@[simp] theorem offer_txInflight (a : HostAccess) : (s.offer a).txInflight = s.txInflight := rfl
@[simp] theorem offer_txWindow (a : HostAccess) : (s.offer a).txWindow = s.txWindow := rfl
@[simp] theorem offer_retxCount (a : HostAccess) : (s.offer a).retxCount = s.retxCount := rfl
@[simp] theorem offer_tmrRto (a : HostAccess) : (s.offer a).tmrRto = s.tmrRto := rfl
@[simp] theorem offer_tmrElapsed (a : HostAccess) : (s.offer a).tmrElapsed = s.tmrElapsed := rfl
@[simp] theorem offer_timeSinceRx (a : HostAccess) : (s.offer a).timeSinceRx = s.timeSinceRx := rfl
@[simp] theorem offer_rxIsn (a : HostAccess) : (s.offer a).rxIsn = s.rxIsn := rfl
@[simp] theorem offer_rxAssembled (a : HostAccess) : (s.offer a).rxAssembled = s.rxAssembled := rfl
@[simp] theorem offer_rxBuffered (a : HostAccess) : (s.offer a).rxBuffered = s.rxBuffered := rfl
@[simp] theorem offer_seglSeqno (a : HostAccess) : (s.offer a).seglSeqno = s.seglSeqno := rfl
@[simp] theorem offer_seglLen (a : HostAccess) : (s.offer a).seglLen = s.seglLen := rfl
@[simp] theorem offer_hostQueue (a : HostAccess) : (s.offer a).hostQueue = s.hostQueue ++ [a] := rfl
@[simp] theorem offer_readData (a : HostAccess) : (s.offer a).readData = s.readData := rfl

end

section
variable (w : Work)

@[simp] theorem complete_arg0 : w.complete.arg0 = w.st.arg0 := rfl
@[simp] theorem complete_arg1 : w.complete.arg1 = w.st.arg1 := rfl
@[simp] theorem complete_arg2 : w.complete.arg2 = w.st.arg2 := rfl
@[simp] theorem complete_res0 : w.complete.res0 = w.st.res0 := rfl
@[simp] theorem complete_res1 : w.complete.res1 = w.st.res1 := rfl
@[simp] theorem complete_res2 : w.complete.res2 = w.st.res2 := rfl
@[simp] theorem complete_status : w.complete.status = { code := .ok, req := w.req } := rfl
@[simp] theorem complete_conn : w.complete.conn = w.st.conn := rfl
@[simp] theorem complete_cfgRtoInit : w.complete.cfgRtoInit = w.st.cfgRtoInit := rfl
@[simp] theorem complete_cfgMaxRetx : w.complete.cfgMaxRetx = w.st.cfgMaxRetx := rfl
@[simp] theorem complete_cfgCapacity : w.complete.cfgCapacity = w.st.cfgCapacity := rfl
@[simp] theorem complete_cfgTxIsn : w.complete.cfgTxIsn = w.st.cfgTxIsn := rfl
@[simp] theorem complete_txNext : w.complete.txNext = w.st.txNext := rfl
@[simp] theorem complete_txAcked : w.complete.txAcked = w.st.txAcked := rfl
@[simp] theorem complete_txInflight : w.complete.txInflight = w.st.txInflight := rfl
@[simp] theorem complete_txWindow : w.complete.txWindow = w.st.txWindow := rfl
@[simp] theorem complete_retxCount : w.complete.retxCount = w.st.retxCount := rfl
@[simp] theorem complete_tmrRto : w.complete.tmrRto = w.st.tmrRto := rfl
@[simp] theorem complete_tmrElapsed : w.complete.tmrElapsed = w.st.tmrElapsed := rfl
@[simp] theorem complete_timeSinceRx : w.complete.timeSinceRx = w.st.timeSinceRx := rfl
@[simp] theorem complete_rxIsn : w.complete.rxIsn = w.st.rxIsn := rfl
@[simp] theorem complete_rxAssembled : w.complete.rxAssembled = w.st.rxAssembled := rfl
@[simp] theorem complete_rxBuffered : w.complete.rxBuffered = w.st.rxBuffered := rfl
@[simp] theorem complete_seglSeqno : w.complete.seglSeqno = w.st.seglSeqno := rfl
@[simp] theorem complete_seglLen : w.complete.seglLen = w.st.seglLen := rfl
@[simp] theorem complete_hostQueue : w.complete.hostQueue = w.st.hostQueue := rfl
@[simp] theorem complete_readData : w.complete.readData = w.st.readData := rfl

end

end Sys2Proof.Machine
end

