-- ==== Sys2Proof/Laws/Ops.lean ====
section
/-! SUPPORT. What the shared operations do, said once: the end of a command, the checks, the registers of the window. -/

namespace Sys2Proof.Machine

/-- A refused command changes only STATUS. -/
theorem runCommand_of_refused {check : State → Option Code} {body : State → Work} {s : State} {c : Code}
    (h : check s = some c) : runCommand check body s = { s with status := { code := c, req := {} } } := by
  simp only [runCommand, h]; rfl

/-- A completed command makes its body's writes and names its request bits. -/
theorem runCommand_of_completed {check : State → Option Code} {body : State → Work} {s : State}
    (h : check s = none) :
    runCommand check body s = { (body s).st with status := { code := .ok, req := (body s).req } } := by
  simp only [runCommand, h]; rfl

/-- A command is either refused by its first failing check or completed. -/
theorem runCommand_cases (check : State → Option Code) (body : State → Work) (s : State) :
    (∃ c, check s = some c ∧ runCommand check body s = { s with status := { code := c, req := {} } }) ∨
    (check s = none ∧
      runCommand check body s = { (body s).st with status := { code := .ok, req := (body s).req } }) := by
  cases h : check s with
  | some c => exact .inl ⟨c, rfl, runCommand_of_refused h⟩
  | none => exact .inr ⟨rfl, runCommand_of_completed h⟩

@[simp] theorem noCheck_apply (s : State) : noCheck s = none := rfl

@[simp] theorem failIf_eq_none (b : Bool) (c : Code) (r : Option Code) :
    failIf b c r = none ↔ b = false ∧ r = none := by
  cases b <;> simp [failIf]

@[simp] theorem failIf_eq_some (b : Bool) (c d : Code) (r : Option Code) :
    failIf b c r = some d ↔ (b = true ∧ c = d) ∨ (b = false ∧ r = some d) := by
  cases b <;> simp [failIf]

@[simp] theorem needActive_eq_none (s : State) (r : Option Code) :
    needActive s r = none ↔ s.conn.active = true ∧ r = none := by
  simp [needActive]

@[simp] theorem needActive_eq_some (s : State) (d : Code) (r : Option Code) :
    needActive s r = some d ↔ (s.conn.active = false ∧ .einactive = d) ∨ (s.conn.active = true ∧ r = some d) := by
  simp [needActive]

@[simp] theorem needNoSegment_eq_none (s : State) (r : Option Code) :
    needNoSegment s r = none ↔ s.conn.segPend = false ∧ r = none := by
  simp [needNoSegment]

@[simp] theorem needNoSegment_eq_some (s : State) (d : Code) (r : Option Code) :
    needNoSegment s r = some d ↔ (s.conn.segPend = true ∧ .eseq = d) ∨ (s.conn.segPend = false ∧ r = some d) := by
  simp [needNoSegment]

@[simp] theorem regAt_regOffset (r : Reg) : regAt (regOffset r) = some r := by
  cases r <;> decide

/-- The register found at an offset is the one the map places there. -/
theorem regOffset_of_regAt {off : BitVec 8} {r : Reg} (h : regAt off = some r) : regOffset r = off := by
  simpa using List.find?_some h

@[simp] theorem windowRead_regOffset (s : State) (r : Reg) : windowRead s (regOffset r) = regRead s r := by
  simp [windowRead]

/-- A host write of a register changes no field but the ones it may store. -/
theorem regWrite_frame (s : State) (r : Reg) (v : U64) :
    regWrite s r v =
      { s with
        arg0 := (regWrite s r v).arg0, arg1 := (regWrite s r v).arg1, arg2 := (regWrite s r v).arg2
        cfgRtoInit := (regWrite s r v).cfgRtoInit, cfgMaxRetx := (regWrite s r v).cfgMaxRetx
        cfgCapacity := (regWrite s r v).cfgCapacity, cfgTxIsn := (regWrite s r v).cfgTxIsn } := by
  cases r <;> simp only [regWrite]
  split <;> rfl

/-- A saturating sum is the sum where that fits, else the largest value. -/
theorem satAdd64_eq (a b : U64) :
    satAdd64 a b = if a.toNat + b.toNat < 2 ^ 64 then a + b else BitVec.allOnes 64 := by
  apply BitVec.eq_of_toNat_eq
  have ha := a.isLt
  have hb := b.isLt
  split <;> simp [satAdd64, BitVec.toNat_add] <;> omega

end Sys2Proof.Machine
end

