-- ==== Sys2Proof/Laws/SeqSpace.lean ====
section
/-! SUPPORT. The sequence-space functions and the acceptance of an acknowledgment, each said once. -/

namespace Sys2Proof.Machine

/-- The low word of a 64-bit value, as a truncation. -/
theorem low32_eq_setWidth (v : U64) : low32 v = v.setWidth 32 := by
  apply BitVec.eq_of_toNat_eq; simp [low32]

@[simp] theorem low32_zext64 (w : U32) : low32 (zext64 w) = w := by
  rw [low32_eq_setWidth, zext64, BitVec.setWidth_setWidth_of_le _ (by decide), BitVec.setWidth_eq]

theorem b2n_le_one (f : Bool) : b2n f ≤ 1 := by cases f <;> decide

/-- The length in sequence space is exact: at most `2^32 + 1`, so nothing wraps (40_seqspace.md R102). -/
theorem seglen_toNat (syn : Bool) (len : U32) (fin : Bool) :
    (seglen syn len fin).toNat = b2n syn + len.toNat + b2n fin := by
  have hs := b2n_le_one syn
  have hf := b2n_le_one fin
  have hl := len.isLt
  simp only [seglen, BitVec.toNat_ofNat]
  omega

/-- `unwrap` on numbers: `c` is the member of the class in the checkpoint's lap, and no move wraps. -/
theorem unwrap_toNat (seqno isn : U32) (cp : U64) :
    (unwrap seqno isn cp).toNat =
      (let hi := cp.toNat / 2 ^ 32
       let c := hi * 2 ^ 32 + (seqno - isn).toNat
       if cp.toNat < c ∧ 0 < hi ∧ 0x80000000 ≤ c - cp.toNat then c - 2 ^ 32
       else if c < cp.toNat ∧ hi < 0xFFFFFFFF ∧ 0x80000000 < cp.toNat - c then c + 2 ^ 32
       else c) := by
  have hc := cp.isLt
  have ho := (seqno - isn).isLt
  have hhi : (high32 cp).toNat = cp.toNat / 2 ^ 32 := by
    simp only [high32, BitVec.extractLsb'_toNat, Nat.shiftRight_eq_div_pow]; omega
  have hcat : (lapMember seqno isn cp).toNat = cp.toNat / 2 ^ 32 * 2 ^ 32 + (seqno - isn).toNat := by
    rw [lapMember, BitVec.toNat_append, hhi, Nat.shiftLeft_eq, Nat.mul_comm, Nat.two_pow_add_eq_or_of_lt ho]
  have hlt := (lapMember seqno isn cp).isLt
  have hlap : (0x100000000 : U64).toNat = 2 ^ 32 := rfl
  simp only [unwrap]
  rw [← hcat]
  generalize lapMember seqno isn cp = c at *
  rw [lapBelowNearer, lapAboveNearer, hhi]
  simp only [Bool.and_eq_true, decide_eq_true_eq, and_assoc]
  split
  · rw [BitVec.toNat_sub, hlap]
    omega
  · split
    · rw [BitVec.toNat_add, hlap]
      omega
    · rfl

/-- The acknowledgment test as a proposition (42_sender_tracking.md R140). -/
theorem ackAcceptable_iff (ackno : U32) (s : State) :
    ackAcceptable ackno s = true ↔
      s.txAcked.toNat ≤ (ackAbs ackno s).toNat ∧ (ackAbs ackno s).toNat ≤ s.txNext.toNat := by
  simp [ackAcceptable]

/-- The acknowledgment test with the absolute number written out. -/
theorem ackAcceptable_eq (ackno : U32) (s : State) :
    ackAcceptable ackno s =
      (decide (s.txAcked.toNat ≤ (unwrap ackno s.cfgTxIsn s.txNext).toNat) &&
        decide ((unwrap ackno s.cfgTxIsn s.txNext).toNat ≤ s.txNext.toNat)) := rfl

/-- An acknowledgment writes TX_ACKED and TX_WINDOW, or nothing. -/
theorem ackAccept_eq (ackno : U32) (win : U16) (s : State) :
    ackAccept ackno win s =
      { s with
        txAcked := if ackAcceptable ackno s then ackAbs ackno s else s.txAcked
        txWindow := if ackAcceptable ackno s then win else s.txWindow } := by
  cases h : ackAcceptable ackno s <;> simp [ackAccept, h]

end Sys2Proof.Machine
end

