-- ==== Sys2Proof/Laws/Connection.lean ====
section
/-! SUPPORT. The connection's rules, each as one record update: what they can write, and when. -/

namespace Sys2Proof.Machine

/-- The shutdown condition is the one the statements name. -/
theorem shutdownDue_eq (s : State) : shutdownDue s = closesCleanly s s.conn.linger s.timeSinceRx.toNat := by
  simp only [shutdownDue, closesCleanly, bothFinished, lingerPeriod]
  cases s.conn.active <;> cases s.conn.rxEnded <;> cases s.conn.txFinSent <;> rfl

theorem active_of_shutdownDue {s : State} (h : shutdownDue s = true) : s.conn.active = true := by
  simp only [shutdownDue, Bool.and_eq_true] at h
  exact h.1.1

/-- The shutdown check writes ACTIVE and names CLOSED_NOW, or does nothing (44_connection.md R180). -/
theorem shutdownEval_eq (w : Work) :
    shutdownEval w =
      { st := { w.st with conn := { w.st.conn with active := w.st.conn.active && !shutdownDue w.st } }
        req := { w.req with closedNow := w.req.closedNow || shutdownDue w.st } } := by
  cases h : shutdownDue w.st <;> simp [shutdownEval, h, State.withConn]

/-- The linger rule clears LINGER, or does nothing (44_connection.md R185). -/
theorem lingerRule_eq (s : State) :
    lingerRule s =
      { s with conn := { s.conn with linger := s.conn.linger && !(s.conn.rxEnded && !s.conn.txEof) } } := by
  cases h : s.conn.rxEnded && !s.conn.txEof <;> simp [lingerRule, h, State.withConn]

/-- The first SYN writes RX_ISN and RX_SYN_SEEN; otherwise nothing changes (44_connection.md R183 step 6). -/
theorem captureSyn_eq (syn : Bool) (seqno : U32) (s : State) :
    captureSyn syn seqno s =
      { s with
        rxIsn := if syn && !s.conn.rxSynSeen then seqno else s.rxIsn
        conn := { s.conn with rxSynSeen := s.conn.rxSynSeen || syn } } := by
  cases syn with
  | false => simp [captureSyn]
  | true =>
    cases h : s.conn.rxSynSeen with
    | false => simp [captureSyn, h]
    | true =>
      simp only [captureSyn, h, Bool.not_true, Bool.and_false, Bool.or_true, Bool.false_eq_true, if_false]
      rw [← h]

/-- The placement writes RES0 and names FWD and LAST (44_connection.md R183 step 7). -/
theorem placePayload_eq (syn fin : Bool) (seqno : U32) (w : Work) :
    placePayload syn fin seqno w =
      { st := { w.st with res0 := (rxMap seqno syn w.st).getD 0 }
        req :=
          { w.req with
            fwd := w.req.fwd || (rxMap seqno syn w.st).isSome
            last := if (rxMap seqno syn w.st).isSome then fin else w.req.last } } := by
  cases h : rxMap seqno syn w.st <;> simp [placePayload, h]

/-- Step 8 writes RES1, and TX_ACKED and TX_WINDOW when the acknowledgment is accepted; it names ACKV
(44_connection.md R183). -/
theorem applyAck_eq (ack : Bool) (ackno : U32) (win : U16) (w : Work) :
    applyAck ack ackno win w =
      { st :=
        { w.st with
          res1 := if ack then ackAbs ackno w.st else 0
          txAcked := if ack && ackAcceptable ackno w.st then ackAbs ackno w.st else w.st.txAcked
          txWindow := if ack && ackAcceptable ackno w.st then win else w.st.txWindow }
        req := { w.req with ackv := if ack then ackAcceptable ackno w.st else w.req.ackv } } := by
  cases ack <;> simp [applyAck, ackAccept_eq]

/-- An expiry stops the timer with nothing outstanding; else it counts and doubles when the window is not zero, and
restarts the timer (44_connection.md R187 step 4). -/
theorem handleExpiry_eq (s : State) :
    handleExpiry s =
      { s with
        retxCount := if s.txInflight = 0 ∨ s.txWindow = 0 then s.retxCount else satAdd32 s.retxCount 1
        tmrRto := if s.txInflight = 0 ∨ s.txWindow = 0 then s.tmrRto else satDbl64 s.tmrRto
        tmrElapsed := if s.txInflight = 0 then s.tmrElapsed else 0
        conn := { s.conn with tmrRunning := decide (s.txInflight ≠ 0) } } := by
  by_cases hi : s.txInflight = 0#64 <;> by_cases hw : s.txWindow = 0#16 <;>
    simp [handleExpiry, backoff, tStart, tStop, tDouble, State.withConn, hi, hw]

/-- Past the retransmission limit the connection ends uncleanly with an RST; else the retransmission is named and the
shutdown condition checked (44_connection.md R187 step 5). -/
theorem limitRule_eq (retx : Bool) (w : Work) :
    limitRule retx w =
      (let past := decide (w.st.cfgMaxRetx.toNat < w.st.retxCount.toNat)
       let closes := shutdownDue w.st
       { st :=
        { w.st with
          conn :=
            { w.st.conn with active := w.st.conn.active && !past && !closes, err := w.st.conn.err || past } }
         req :=
          { w.req with
            retxReq := if past then w.req.retxReq else retx
            flushReq := w.req.flushReq || past
            rstReq := w.req.rstReq || past
            streamErr := w.req.streamErr || past
            closedNow := w.req.closedNow || past || closes } }) := by
  by_cases h : w.st.cfgMaxRetx.toNat < w.st.retxCount.toNat
  · simp [limitRule, h, uncleanShutdown, State.withConn]
  · simp [limitRule, h, shutdownEval_eq]

/-- TICK's steps 3 and 4 as one record update, before the limit rule (44_connection.md R187): at most one expiry. -/
theorem tickBody_eq (s : State) :
    tickBody s =
      (let elapsed := if s.conn.tmrRunning = true then satAdd64 s.tmrElapsed s.arg0 else s.tmrElapsed
       let fired : Bool := s.conn.tmrRunning && decide (s.tmrRto.toNat ≤ elapsed.toNat)
       let resend : Bool := fired && s.txInflight != 0
       let counts : Bool := resend && s.txWindow != 0
       limitRule resend
        { st :=
          { s with
            timeSinceRx := satAdd64 s.timeSinceRx s.arg0
            tmrElapsed := if resend = true then 0 else elapsed
            tmrRto := if counts = true then satDbl64 s.tmrRto else s.tmrRto
            retxCount := if counts = true then satAdd32 s.retxCount 1 else s.retxCount
            conn := { s.conn with tmrRunning := s.conn.tmrRunning && !(fired && s.txInflight == 0) } }
          req := { expired := fired } }) := by
  have hx : tExpired (tTick s.arg0 { s with timeSinceRx := satAdd64 s.timeSinceRx s.arg0 }) =
      (s.conn.tmrRunning && decide (s.tmrRto.toNat ≤
        (if s.conn.tmrRunning = true then satAdd64 s.tmrElapsed s.arg0 else s.tmrElapsed).toNat)) := rfl
  simp only [tickBody, tickDelta, hx]
  generalize hf : (s.conn.tmrRunning && _) = fired
  cases fired with
  | false => simp [tTick]
  | true =>
    have hr : s.conn.tmrRunning = true := (Bool.and_eq_true_iff.1 hf).1
    by_cases hi : s.txInflight = 0#64
    · simp [handleExpiry_eq, tTick, hi]
    · have hb : (s.txInflight == 0#64) = false := beq_eq_false_iff_ne.2 hi
      by_cases hw : s.txWindow = 0#16
      · simp [handleExpiry_eq, tTick, hr, hi, hb, hw]
      · simp [handleExpiry_eq, tTick, hr, hi, hb, hw]

end Sys2Proof.Machine
end

