-- ==== Sys2Proof/Laws/Exec.lean ====
section
/-! SUPPORT. One form for every command: exec answers the next state of its checks and its body. Proofs about every
command cite exec_form and split the body, and need not unfold the twenty-one meanings. -/

namespace Sys2Proof.Machine

/-- The checks of each command. -/
def checkOf : Instr → State → Option Code
  | .txSent syn fin => txSentCheck syn fin
  | .txRetire => txRetireCheck
  | .txEof => txEofCheck
  | .rxStatus ended => rxStatusCheck ended
  | .segRx _ _ _ _ _ => segRxCheck
  | .segEnd => segEndCheck
  | .tick => tickCheck
  | .eval => evalCheck
  | .init => initCheck
  | .nop | .wrap | .unwrap | .seglen _ _ => noCheck
  | .tmrStart | .tmrStop | .tmrReset | .tmrDouble | .tmrTick | .tmrQuery => noCheck
  | .close | .stamp => noCheck

/-- The writes of each command. -/
def bodyOf : Instr → State → Work
  | .nop => nopBody
  | .wrap => wrapBody
  | .unwrap => unwrapBody
  | .seglen syn fin => seglenBody syn fin
  | .tmrStart => tmrStartBody
  | .tmrStop => tmrStopBody
  | .tmrReset => tmrResetBody
  | .tmrDouble => tmrDoubleBody
  | .tmrTick => tmrTickBody
  | .tmrQuery => tmrQueryBody
  | .segRx syn fin rst ack win => segRxBody syn fin rst ack win
  | .segEnd => segEndBody
  | .rxStatus ended => rxStatusBody ended
  | .txSent syn fin => txSentBody syn fin
  | .txRetire => txRetireBody
  | .txEof => txEofBody
  | .tick => tickBody
  | .eval => evalBody
  | .close => closeBody
  | .stamp => stampBody
  | .init => initBody

/-- Every command answers a next state, the one of its checks and its body. -/
theorem exec_form (i : Instr) (s : State) : exec i s = .next (runCommand (checkOf i) (bodyOf i) s) := by
  cases i <;> rfl

/-- Every command is refused with the code of its first failing check, STATUS alone changing, or completes with its
body's writes. -/
theorem exec_cases {i : Instr} {s t : State} (h : exec i s = .next t) :
    (∃ c, checkOf i s = some c ∧ t = { s with status := { code := c, req := {} } }) ∨
    (checkOf i s = none ∧ t = { (bodyOf i s).st with status := { code := .ok, req := (bodyOf i s).req } }) := by
  rw [exec_form] at h
  obtain rfl : runCommand (checkOf i) (bodyOf i) s = t := by injection h
  exact runCommand_cases _ _ _

end Sys2Proof.Machine
end

