-- ==== Sys2Proof/Laws/Bodies.lean ====
section
/-! SUPPORT. The writes of the commands that are composed of several operations, each as one flat record update, so
that a proof about a field projects it and never meets a nested update. The other bodies are flat by definition. -/

namespace Sys2Proof.Machine

/-- TX_RETIRE's writes (42_sender_tracking.md R142). -/
theorem txRetireBody_eq (s : State) :
    txRetireBody s =
      { st :=
        { s with
          txInflight := s.txInflight - s.arg0
          retxCount := if s.arg0 = 0 then s.retxCount else 0
          tmrRto := if s.arg0 = 0 then s.tmrRto else zext64 s.cfgRtoInit
          tmrElapsed := if s.arg0 = 0 then s.tmrElapsed else 0
          conn :=
            { s.conn with
              tmrRunning :=
                if s.txInflight - s.arg0 = 0 then false else if s.arg0 = 0 then s.conn.tmrRunning else true } } } := by
  by_cases ha : s.arg0 = 0#64
  · by_cases hi : s.txInflight = 0#64 <;> simp [txRetireBody, retiredLen, tStop, State.withConn, ha, hi]
  · by_cases hi : s.txInflight - s.arg0 = 0#64 <;>
      simp [txRetireBody, retiredLen, tStop, State.withConn, retireProgress, tStart, tReset, ha, hi]

/-- STAMP's writes (43_receiver_feedback.md R164). -/
theorem stampBody_eq (s : State) :
    stampBody s =
      { st :=
        { s with
          res0 := if s.conn.rxSynSeen then zext64 (wrap (rxAcknoAbs s) s.rxIsn) else 0
          res1 := if s.conn.rxSynSeen then (rxWindow16 s).setWidth 64 else 0
          res2 := zext64 (wrap s.txNext s.cfgTxIsn)
          conn := { s.conn with txd := true } }
        req := { stampv := s.conn.rxSynSeen } } := by
  cases h : s.conn.rxSynSeen <;> simp [stampBody, rxAckno, h]

/-- CLOSE's writes on a live connection (44_connection.md R189). -/
theorem closeBody_of_active {s : State} (h : s.conn.active = true) :
    closeBody s =
      { st := { s with conn := { s.conn with active := false, err := true, segPend := false } }
        req := { rstReq := true, streamErr := true, closedNow := true } } := by
  rw [closeBody, if_pos h]; rfl

/-- CLOSE writes nothing on an inactive connection (44_connection.md R189). -/
theorem closeBody_of_inactive {s : State} (h : s.conn.active = false) : closeBody s = { st := s } := by
  rw [closeBody, if_neg (by simp [h])]

/-- EVAL's writes (44_connection.md R188). -/
theorem evalBody_eq (s : State) :
    evalBody s =
      { st := { s with conn := { s.conn with active := s.conn.active && !shutdownDue s } }
        req := { closedNow := shutdownDue s } } := by
  rw [evalBody, shutdownEval_eq]; rfl

/-- The keep-alive test on the latch and the receiver's acknowledgment number (44_connection.md R186). -/
theorem keepaliveProbe_eq (s : State) :
    keepaliveProbe s =
      (s.conn.rxSynSeen && (s.seglLen == 0 && s.seglSeqno == wrap (rxAcknoAbs s) s.rxIsn - 1)) := by
  cases h : s.conn.rxSynSeen <;> simp [keepaliveProbe, rxAckno, h]

/-- SEG_END's writes (44_connection.md R184). -/
theorem segEndBody_eq (s : State) :
    segEndBody s =
      (let linger := s.conn.linger && !(s.conn.rxEnded && !s.conn.txEof)
       let closes := closesCleanly s linger s.timeSinceRx.toNat
       { st :=
        { s with
          conn := { s.conn with segPend := false, linger := linger, active := s.conn.active && !closes } }
         req :=
          { emptyReq := keepaliveProbe s || ackOwed s, keepalive := keepaliveProbe s, closedNow := closes } }) := by
  simp only [segEndBody, lingerRule_eq, shutdownEval_eq, shutdownDue_eq, State.withConn]
  rfl

/-- SEG_RX's writes for an RST (44_connection.md R183 step 4). -/
theorem segRxBody_of_rst (syn fin ack : Bool) (win : U16) (s : State) :
    segRxBody syn fin true ack win s =
      { st := { s with timeSinceRx := 0, conn := { s.conn with active := false, err := true } }
        req := { streamErr := true, closedNow := true } } := rfl

/-- SEG_RX's writes for a segment that is discarded (44_connection.md R183 step 5). -/
theorem segRxBody_of_discard (fin ack : Bool) (win : U16) {s : State} (h : s.conn.rxSynSeen = false) :
    segRxBody false fin false ack win s = { st := { s with timeSinceRx := 0 } } := by
  simp [segRxBody, h]

/-- SEG_RX's writes for every other segment (44_connection.md R183 steps 6 to 10). -/
theorem segRxBody_of_processed (syn fin ack : Bool) (win : U16) {s : State}
    (h : s.conn.rxSynSeen = true ∨ syn = true) :
    segRxBody syn fin false ack win s =
      (let isn := if s.conn.rxSynSeen = true then s.rxIsn else segSeqno s
       let abs := unwrap (segSeqno s) isn (s.rxAssembled + 1)
       let accepted := ack && ackAcceptable (segAckno s) s
       { st :=
        { s with
          timeSinceRx := 0
          rxIsn := isn
          res0 := if syn = true then 0 else if abs = 0 then 0 else abs - 1
          res1 := if ack then ackAbs (segAckno s) s else 0
          txAcked := if accepted then ackAbs (segAckno s) s else s.txAcked
          txWindow := if accepted then win else s.txWindow
          seglSeqno := segSeqno s
          seglLen := seglen syn (segPayloadLen s) fin
          conn := { s.conn with rxSynSeen := true, segPend := true, txd := false } }
         req :=
          { fwd := syn || abs != 0, last := (syn || abs != 0) && fin, ackv := accepted
            connectReq := syn && !s.conn.txSynSent, pend := true } }) := by
  have hseen : (s.conn.rxSynSeen || syn) = true := by rcases h with h | h <;> simp [h]
  have hdisc : (!s.conn.rxSynSeen && !syn) = false := by rcases h with h | h <;> simp [h]
  have hisn : (if syn && !s.conn.rxSynSeen then segSeqno s else s.rxIsn) =
      (if s.conn.rxSynSeen = true then s.rxIsn else segSeqno s) := by
    cases h1 : s.conn.rxSynSeen <;> cases syn <;> simp_all
  have hsame : ∀ x, segSeqno { s with timeSinceRx := x } = segSeqno s := fun _ => rfl
  simp only [segRxBody, hdisc, segRxProcess, captureSyn_eq, placePayload_eq, applyAck_eq, latchSegment, hsame, hisn,
    hseen]
  generalize (if s.conn.rxSynSeen = true then s.rxIsn else segSeqno s) = isn
  simp only [rxMap, segPayloadLen, segAckno]
  simp only [ackAcceptable_eq, ackAbs]
  cases syn <;> cases ack <;> by_cases habs : unwrap (segSeqno s) isn (s.rxAssembled + 1#64) = 0#64 <;>
    simp [habs]

/-- TICK's writes, beyond the retransmission limit (past) or within it (44_connection.md R187 steps 3 to 5). -/
theorem tickBody_flat (s : State) :
    tickBody s =
      (let sinceRx := satAdd64 s.timeSinceRx s.arg0
       let elapsed := if s.conn.tmrRunning = true then satAdd64 s.tmrElapsed s.arg0 else s.tmrElapsed
       let fired : Bool := s.conn.tmrRunning && decide (s.tmrRto.toNat ≤ elapsed.toNat)
       let resend : Bool := fired && s.txInflight != 0
       let counts : Bool := resend && s.txWindow != 0
       let count := if counts = true then satAdd32 s.retxCount 1 else s.retxCount
       let past : Bool := decide (s.cfgMaxRetx.toNat < count.toNat)
       let closes := closesCleanly s s.conn.linger sinceRx.toNat
       { st :=
        { s with
          timeSinceRx := sinceRx
          tmrElapsed := if resend = true then 0 else elapsed
          tmrRto := if counts = true then satDbl64 s.tmrRto else s.tmrRto
          retxCount := count
          conn :=
            { s.conn with
              tmrRunning := s.conn.tmrRunning && !(fired && s.txInflight == 0)
              active := s.conn.active && !past && !closes
              err := s.conn.err || past } }
         req :=
          { expired := fired, retxReq := if past then false else resend, closedNow := past || closes
            flushReq := past, rstReq := past, streamErr := past } }) := by
  simp only [tickBody_eq, limitRule_eq, shutdownDue_eq, Bool.false_or]
  rfl

/-- A command neither reads nor writes the host's accesses still to come. -/
theorem exec_withQueue (i : Instr) (s : State) (q : List HostAccess) :
    exec i { s with hostQueue := q } =
      .next { runCommand (checkOf i) (bodyOf i) s with hostQueue := q } := by
  have hc : checkOf i { s with hostQueue := q } = checkOf i s := by cases i <;> rfl
  rw [exec_form]
  congr 1
  cases h : checkOf i s with
  | some c => rw [runCommand_of_refused h, runCommand_of_refused (hc.trans h)]
  | none =>
    rw [runCommand_of_completed h, runCommand_of_completed (hc.trans h)]
    cases i
    case segRx syn fin rst ack win =>
      cases rst
      · by_cases hp : s.conn.rxSynSeen = true ∨ syn = true
        · simp only [bodyOf, segRxBody_of_processed syn fin ack win hp]
          rw [segRxBody_of_processed syn fin ack win (s := { s with hostQueue := q }) hp]
          rfl
        · simp only [not_or, Bool.not_eq_true] at hp
          obtain ⟨hseen, rfl⟩ := hp
          simp only [bodyOf, segRxBody_of_discard fin ack win hseen]
          rw [segRxBody_of_discard fin ack win (s := { s with hostQueue := q }) hseen]
      · rfl
    case close =>
      cases ha : s.conn.active
      · simp only [bodyOf, closeBody_of_inactive ha]
        rw [closeBody_of_inactive (s := { s with hostQueue := q }) ha]
      · simp only [bodyOf, closeBody_of_active ha]
        rw [closeBody_of_active (s := { s with hostQueue := q }) ha]
    case tick => simp only [bodyOf, tickBody_flat]; rfl
    case segEnd => simp only [bodyOf, segEndBody_eq]; rfl
    case eval => simp only [bodyOf, evalBody_eq]; rfl
    case stamp => simp only [bodyOf, stampBody_eq]; rfl
    case txRetire => simp only [bodyOf, txRetireBody_eq]
    all_goals rfl

end Sys2Proof.Machine
end

