-- ==== Sys2Proof/Laws/Checks.lean ====
section
/-! SUPPORT. When the checks of a command pass, as a proposition on the state, and when a command is refused for an
inactive connection or the two-phase order. -/

namespace Sys2Proof.Machine

/-- TX_SENT is accepted (42_sender_tracking.md R141). -/
theorem txSentCheck_eq_none (syn fin : Bool) (s : State) :
    txSentCheck syn fin s = none ↔
      s.conn.active = true ∧ (seglen syn (payloadLen s) fin).toNat ≠ 0 ∧ s.conn.txFinSent = false ∧
      syn = !s.conn.txSynSent ∧ s.txNext.toNat + (seglen syn (payloadLen s) fin).toNat ≤ 2 ^ 64 - 1 := by
  simp only [txSentCheck, needActive_eq_none, failIf_eq_none]
  have hz : (seglen syn (payloadLen s) fin == 0) = false ↔ (seglen syn (payloadLen s) fin).toNat ≠ 0 := by
    rw [beq_eq_false_iff_ne, ne_eq, ne_eq, ← BitVec.toNat_inj]; rfl
  rw [hz, decide_eq_false_iff_not, Nat.not_lt]
  cases syn <;> cases s.conn.txSynSent <;> simp

/-- TX_RETIRE is accepted (42_sender_tracking.md R142). -/
theorem txRetireCheck_eq_none (s : State) :
    txRetireCheck s = none ↔
      s.conn.active = true ∧ s.arg0.toNat ≤ s.txInflight.toNat ∧
      s.txNext.toNat - s.txAcked.toNat ≤ s.txInflight.toNat - s.arg0.toNat := by
  simp only [txRetireCheck, needActive_eq_none, failIf_eq_none, decide_eq_false_iff_not, Nat.not_lt, and_true]
  rfl

/-- RX_STATUS is accepted (43_receiver_feedback.md R163). -/
theorem rxStatusCheck_eq_none (ended : Bool) (s : State) :
    rxStatusCheck ended s = none ↔
      (s.conn.rxSynSeen = false → s.arg0 = 0 ∧ s.arg1 = 0 ∧ ended = false) ∧
      s.rxAssembled.toNat ≤ s.arg0.toNat ∧ s.arg1.toNat ≤ s.arg0.toNat ∧
      (s.conn.rxEnded = true → ended = true ∧ s.arg0 = s.rxAssembled) := by
  simp only [rxStatusCheck, failIf_eq_none, decide_eq_false_iff_not, Nat.not_lt, and_true]
  simp only [rxAssembledReport, rxBufferedReport]
  cases s.conn.rxSynSeen <;> cases s.conn.rxEnded <;> cases ended <;> simp

/-- SEG_RX is accepted (44_connection.md R183). -/
theorem segRxCheck_eq_none (s : State) :
    segRxCheck s = none ↔ s.conn.segPend = false ∧ s.conn.active = true := by simp [segRxCheck]

/-- TICK is accepted (44_connection.md R187). -/
theorem tickCheck_eq_none (s : State) :
    tickCheck s = none ↔ s.conn.segPend = false ∧ s.conn.active = true := by simp [tickCheck]

/-- EVAL is accepted (44_connection.md R188). -/
theorem evalCheck_eq_none (s : State) :
    evalCheck s = none ↔ s.conn.segPend = false ∧ s.conn.active = true := by simp [evalCheck]

/-- SEG_END is accepted (44_connection.md R184). -/
theorem segEndCheck_eq_none (s : State) : segEndCheck s = none ↔ s.conn.segPend = true := by simp [segEndCheck]

/-- TX_EOF is accepted (42_sender_tracking.md R143). -/
theorem txEofCheck_eq_none (s : State) : txEofCheck s = none ↔ s.conn.active = true := by simp [txEofCheck]

/-- INIT is accepted (44_connection.md R190). -/
theorem initCheck_eq_none (s : State) : initCheck s = none ↔ s.conn.active = false := by simp [initCheck]

end Sys2Proof.Machine
end

