-- ==== Sys2Proof/Laws/Decode.lean ====
section
/-! SUPPORT. The decoder, said once: when a word gives a command. -/

namespace Sys2Proof

theorem mem_allMnemonics (m : Mnemonic) : m ∈ allMnemonics := by cases m <;> decide

@[simp] theorem rowOfOp_op (m : Mnemonic) : rowOfOp m.op = some m := by cases m <;> decide

/-- The row an OP value selects has that OP value. -/
theorem op_of_rowOfOp {op : BitVec 8} {m : Mnemonic} (h : rowOfOp op = some m) : m.op = op := by
  simpa using List.find?_some h

/-- When a word decodes: its OP value is the row's and its unused bits are zero. -/
theorem decode_eq_ok_iff (w : U32) (i : Instr) :
    decode w = .ok i ↔ ∃ m : Mnemonic, opField w = m.op ∧ w &&& m.unusedBits = 0 ∧ m.command w = i := by
  unfold decode
  constructor
  · intro h
    split at h
    · cases h
    · rename_i m hm
      split at h
      · rename_i hz
        exact ⟨m, (op_of_rowOfOp hm).symm, hz, by injection h⟩
      · cases h
  · rintro ⟨m, ho, hz, rfl⟩
    rw [ho, rowOfOp_op]
    simp [hz]

/-- A word whose OP value selects a row is rejected only for a bit the row does not use. -/
theorem decode_of_op {w : U32} {m : Mnemonic} (h : opField w = m.op) :
    decode w = if w &&& m.unusedBits = 0 then .ok (m.command w) else .error .unusedField := by
  rw [decode, h, rowOfOp_op]

@[simp] theorem mnemonic_command (m : Mnemonic) (w : U32) : (m.command w).mnemonic = m := by cases m <;> rfl

theorem decodeOption_eq_some (w : U32) (i : Instr) : decodeOption w = some i ↔ decode w = .ok i := by
  unfold decodeOption
  cases decode w <;> simp

/-- The bits of a word with only OP set. -/
theorem opOnly_getLsbD (o : BitVec 8) (i : Nat) : (opOnly o).getLsbD i = if i < 8 then o.getLsbD i else false := by
  show BitVec.getLsbD (w := 24 + 8) ((0 : BitVec 24) ++ o) i = _
  rw [BitVec.getLsbD_append]
  split <;> simp

/-- The bits of a SEG_RX word, field by field (30_encoding.md R85). -/
theorem encode_segRx_getLsbD (syn fin rst ack : Bool) (win : U16) (i : Nat) :
    (encode (.segRx syn fin rst ack win)).getLsbD i =
      if i < 8 then (0x20 : BitVec 8).getLsbD i
      else if i = 8 then syn else if i = 9 then fin else if i = 10 then rst else if i = 11 then ack
      else if i < 16 then false else win.getLsbD (i - 16) := by
  show BitVec.getLsbD (w := 16 + 4 + 1 + 1 + 1 + 1 + 8)
    (win ++ (0 : BitVec 4) ++ flagBit ack ++ flagBit rst ++ flagBit fin ++ flagBit syn ++ (0x20 : BitVec 8)) i = _
  simp only [BitVec.getLsbD_append, flagBit, BitVec.getLsbD_ofBool]
  by_cases h1 : i < 8
  · simp [h1]
  · by_cases h2 : i < 16
    · have : i = 8 ∨ i = 9 ∨ i = 10 ∨ i = 11 ∨ i = 12 ∨ i = 13 ∨ i = 14 ∨ i = 15 := by omega
      rcases this with rfl|rfl|rfl|rfl|rfl|rfl|rfl|rfl <;> simp
    · have e : i - 8 - 1 - 1 - 1 - 1 - 4 = i - 16 := by omega
      rw [e]
      repeat rw [if_neg (by omega)]

end Sys2Proof
end

