-- ==== Sys2Proof/Laws/Flags.lean ====
section
/-! SUPPORT. The words of STATUS and CONN, bit by bit: what a host reads at each position (10_state.md R26, R27). -/

namespace Sys2Proof.Machine

/-- The request bits of STATUS, counted from bit 8. -/
theorem Reqs.bits_getLsbD (r : Reqs) (k : Nat) :
    r.bits.getLsbD k =
      if k = 0 then r.retxReq else if k = 1 then r.rstReq else if k = 2 then r.flushReq
      else if k = 3 then r.emptyReq else if k = 4 then r.connectReq else if k = 5 then r.fwd
      else if k = 6 then r.last else if k = 7 then r.ackv else if k = 8 then r.pend
      else if k = 9 then r.expired else if k = 10 then r.stampv else if k = 11 then r.streamErr
      else if k = 12 then r.closedNow else if k = 13 then r.keepalive else false := by
  by_cases h : k < 14
  · unfold Reqs.bits
    show BitVec.getLsbD (w := 1 + 1 + 1 + 1 + 1 + 1 + 1 + 1 + 1 + 1 + 1 + 1 + 1 + 1) _ k = _
    simp only [BitVec.getLsbD_append, BitVec.getLsbD_ofBool]
    interval_cases k <;> simp
  · rw [BitVec.getLsbD_of_ge _ _ (by omega)]
    repeat rw [if_neg (by omega)]

/-- The flags of CONN. -/
theorem Conn.bits_getLsbD (c : Conn) (k : Nat) :
    c.bits.getLsbD k =
      if k = 0 then c.active else if k = 1 then c.linger else if k = 2 then c.err
      else if k = 3 then c.txSynSent else if k = 4 then c.txFinSent else if k = 5 then c.txEof
      else if k = 6 then c.rxSynSeen else if k = 7 then c.rxEnded else if k = 8 then c.tmrRunning
      else if k = 9 then c.segPend else if k = 10 then c.txd else false := by
  by_cases h : k < 11
  · unfold Conn.bits
    show BitVec.getLsbD (w := 1 + 1 + 1 + 1 + 1 + 1 + 1 + 1 + 1 + 1 + 1) _ k = _
    simp only [BitVec.getLsbD_append, BitVec.getLsbD_ofBool]
    interval_cases k <;> simp
  · rw [BitVec.getLsbD_of_ge _ _ (by omega)]
    repeat rw [if_neg (by omega)]

/-- STATUS by its fields: CODE, the request bits, STATE; every other bit reads 0. -/
theorem statusWord_getLsbD (s : State) (k : Nat) :
    (statusWord s).getLsbD k =
      if k < 8 then s.status.code.value.getLsbD k
      else if k < 22 then s.status.req.bits.getLsbD (k - 8)
      else if k < 24 then false
      else if k < 27 then (stateTag s).value.getLsbD (k - 24) else false := by
  have h : (statusWord s).getLsbD k = BitVec.getLsbD (w := 37 + 3 + 2 + 14 + 8) ((0 : BitVec 37) ++ (stateTag s).value ++
      (0 : BitVec 2) ++ s.status.req.bits ++ s.status.code.value) k := rfl
  rw [h]
  simp only [BitVec.getLsbD_append]
  by_cases h1 : k < 8
  · simp [h1]
  by_cases h2 : k < 22
  · simp [h1, h2, show k - 8 < 14 by omega]
  by_cases h3 : k < 24
  · simp [h1, h2, h3, show ¬ k - 8 < 14 by omega, show k - 8 - 14 < 2 by omega]
  by_cases h4 : k < 27
  · simp [h1, h2, h3, h4, show ¬ k - 8 < 14 by omega, show ¬ k - 8 - 14 < 2 by omega, show k - 8 - 14 - 2 = k - 24 by omega,
      show k - 24 < 3 by omega]
  · simp [h1, h2, h3, h4, show ¬ k - 8 < 14 by omega, show ¬ k - 8 - 14 < 2 by omega,
      show ¬ k - 8 - 14 - 2 < 3 by omega]

/-- CONN by its fields: the flags, STATE; every other bit reads 0. -/
theorem connWord_getLsbD (s : State) (k : Nat) :
    (connWord s).getLsbD k =
      if k < 11 then s.conn.bits.getLsbD k
      else if k < 12 then false
      else if k < 15 then (stateTag s).value.getLsbD (k - 12) else false := by
  have h : (connWord s).getLsbD k = BitVec.getLsbD (w := 49 + 3 + 1 + 11) ((0 : BitVec 49) ++ (stateTag s).value ++
      (0 : BitVec 1) ++ s.conn.bits) k := rfl
  rw [h]
  simp only [BitVec.getLsbD_append]
  by_cases h1 : k < 11
  · simp [h1]
  by_cases h2 : k < 12
  · simp [h1, h2, show k - 11 < 1 by omega]
  by_cases h3 : k < 15
  · simp [h1, h2, h3, show ¬ k - 11 < 1 by omega, show k - 11 - 1 = k - 12 by omega, show k - 12 < 3 by omega]
  · simp [h1, h2, h3, show ¬ k - 11 < 1 by omega, show ¬ k - 11 - 1 < 3 by omega]

end Sys2Proof.Machine
end

