-- ==== Sys2Proof/Laws/PerInstr.lean ====
section
/-! SUPPORT. Families proved one constructor at a time. -/

namespace Sys2Proof.Laws

/-- An instruction's encoding is selected by its own row of the opcode map (30_encoding.md R84, R85). -/
def RowMatch.Statement (i : Instr) : Prop := encode i &&& i.mnemonic.row.mask = i.mnemonic.row.pattern

theorem RowMatch.nop : RowMatch.Statement .nop := by rfl
theorem RowMatch.wrap : RowMatch.Statement .wrap := by rfl
theorem RowMatch.unwrap : RowMatch.Statement .unwrap := by rfl
theorem RowMatch.seglen : ∀ syn fin, RowMatch.Statement (.seglen syn fin) := by
  unfold RowMatch.Statement
  decide
theorem RowMatch.tmrStart : RowMatch.Statement .tmrStart := by rfl
theorem RowMatch.tmrStop : RowMatch.Statement .tmrStop := by rfl
theorem RowMatch.tmrReset : RowMatch.Statement .tmrReset := by rfl
theorem RowMatch.tmrDouble : RowMatch.Statement .tmrDouble := by rfl
theorem RowMatch.tmrTick : RowMatch.Statement .tmrTick := by rfl
theorem RowMatch.tmrQuery : RowMatch.Statement .tmrQuery := by rfl
/-- IMM16 and the four letters are outside the mask. -/
theorem RowMatch.segRx (syn fin rst ack : Bool) (win : U16) : RowMatch.Statement (.segRx syn fin rst ack win) := by
  apply BitVec.eq_of_getLsbD_eq
  intro k hk
  rw [BitVec.getLsbD_and, encode_segRx_getLsbD]
  by_cases h16 : k < 16
  · revert syn fin rst ack
    interval_cases k <;> simp [Instr.mnemonic, Mnemonic.row]
  · interval_cases k <;> simp_all [Instr.mnemonic, Mnemonic.row]
theorem RowMatch.segEnd : RowMatch.Statement .segEnd := by rfl
theorem RowMatch.rxStatus : ∀ ended, RowMatch.Statement (.rxStatus ended) := by
  unfold RowMatch.Statement
  decide
theorem RowMatch.txSent : ∀ syn fin, RowMatch.Statement (.txSent syn fin) := by
  unfold RowMatch.Statement
  decide
theorem RowMatch.txRetire : RowMatch.Statement .txRetire := by rfl
theorem RowMatch.txEof : RowMatch.Statement .txEof := by rfl
theorem RowMatch.tick : RowMatch.Statement .tick := by rfl
theorem RowMatch.eval : RowMatch.Statement .eval := by rfl
theorem RowMatch.close : RowMatch.Statement .close := by rfl
theorem RowMatch.stamp : RowMatch.Statement .stamp := by rfl
theorem RowMatch.init : RowMatch.Statement .init := by rfl

end Sys2Proof.Laws
end

