-- ==== Sys2Proof/Laws/Step.lean ====
section
/-! SUPPORT. A step, by the access the host's queue offers: an idle step, a command, a register access, a refusal. -/

namespace Sys2Proof.Machine

theorem step_of_empty {s : State} (h : s.hostQueue = []) : step s = .next s := by
  simp [step, takeAccess, h]

theorem step_of_cons {s : State} {a : HostAccess} {rest : List HostAccess} (h : s.hostQueue = a :: rest) :
    step s = performAccess a { s with hostQueue := rest } := by
  simp [step, takeAccess, h]

/-- A write of CMD issues a command. -/
theorem performAccess_cmd (v : U64) (s : State) : performAccess (.write 0x00 8 v) s = issueCommand v s := rfl

/-- An access is one of four things: refused, a read, a command, or a register write that may be ignored. -/
theorem performAccess_cases (a : HostAccess) (s : State) :
    (a.wellFormed = false ∧ ∃ off width, performAccess a s = .refused (.badAccess off width)) ∨
    (∃ off, a = .read off 8 ∧ performAccess a s = .next { s with readData := windowRead s off }) ∨
    (∃ v, a = .write 0x00 8 v ∧ performAccess a s = issueCommand v s) ∨
    (∃ off v r, a = .write off 8 v ∧ r ≠ Reg.cmd ∧ regOffset r = off ∧
      performAccess a s = .next (regWrite s r v)) ∨
    (∃ off v, a = .write off 8 v ∧ regAt off = none ∧ performAccess a s = .next s) := by
  cases hw : a.wellFormed with
  | false => refine .inl ⟨rfl, ?_⟩; cases a <;> simp [performAccess, hw]
  | true =>
    right
    cases a with
    | read off width =>
      obtain rfl : width = 8 := by simp [HostAccess.wellFormed] at hw; exact hw.1
      exact .inl ⟨off, rfl, by simp [performAccess, hw, hostRead]⟩
    | write off width v =>
      obtain rfl : width = 8 := by simp [HostAccess.wellFormed] at hw; exact hw.1
      right
      cases hr : regAt off with
      | none => exact .inr (.inr ⟨off, v, rfl, hr, by simp [performAccess, hw, hostWrite, hr]⟩)
      | some r =>
        have ho := regOffset_of_regAt hr
        by_cases hc : r = .cmd
        · subst hc
          have h0 : off = 0x00 := ho.symm
          subst h0
          exact .inl ⟨v, rfl, performAccess_cmd v s⟩
        · refine .inr (.inl ⟨off, v, r, rfl, hc, ho, ?_⟩)
          simp only [performAccess, hw, if_true, hostWrite, hr]

/-- A command write decodes and runs, or ends with EOPC. -/
theorem issueCommand_cases (v : U64) (s : State) :
    (∃ i, decode (low32 v) = .ok i ∧ issueCommand v s = exec i s) ∨
    (∃ e, decode (low32 v) = .error e ∧
      issueCommand v s = .next { s with status := { code := .eopc, req := {} } }) := by
  cases h : decode (low32 v) with
  | ok i => exact .inl ⟨i, rfl, by simp [issueCommand, h]⟩
  | error e => exact .inr ⟨e, rfl, by simp [issueCommand, h]; rfl⟩

end Sys2Proof.Machine
end

