-- ==== Sys2Proof/Tests/Slice0.lean ====
section
/-! SUPPORT. Tests and witnesses. Expected results come from the spec: the patterns of 30_encoding.md R85, the examples
of the command rules, and the vectors of 95_test_vectors.md, whose names (V1, S1, TK5, ...) the docstrings give. The
witnesses show that the hypotheses of each statement can be met together. -/

namespace Sys2Proof.Tests

open Sys2Proof.Machine

/-- The start state of the vectors: the reset state with P_RTO_INIT 1000, P_MAX_RETX 8, P_CAPACITY 64000, P_TX_ISN 0
(95_test_vectors.md, conventions). -/
def t0 : State := State.resetWith ⟨1000, 8, 64000, 0⟩

/-- Whether an outcome is a next state with a property. -/
def after (o : Out) (p : State → Bool) : Bool :=
  match o with
  | .next t => p t
  | .fault _ => false
  | .refused _ => false

/-- A host that has made one access. -/
def offering (s : State) (a : HostAccess) : State := { s with hostQueue := [a] }

/-- SYN_SENT: the own SYN is sent. -/
def synSent : State :=
  { t0 with
    cfgTxIsn := 1000, txNext := 1, txInflight := 1
    conn := { Conn.fresh with txSynSent := true, tmrRunning := true, txd := true } }

/-- SYN_RCVD: the peer's SYN is seen. -/
def synRcvd : State := { t0 with rxIsn := 5000, conn := { Conn.fresh with rxSynSeen := true } }

/-- ESTABLISHED with nothing outstanding: the start of the X vectors. -/
def established : State :=
  { t0 with
    rxIsn := 5000, txNext := 1, txAcked := 1
    conn := { Conn.fresh with txSynSent := true, rxSynSeen := true } }

/-- ESTABLISHED with ten numbers outstanding: the start of the A vectors. -/
def sending : State :=
  { established with
    cfgTxIsn := 1000, txNext := 11, txInflight := 10
    conn := { established.conn with tmrRunning := true } }

/-- A segment is pending: the start of the SG vectors. -/
def pending : State := { established with rxIsn := 100, conn := { established.conn with segPend := true } }

/-- LINGER: both directions have finished, the start of the SD vectors. -/
def lingering : State :=
  { t0 with
    rxIsn := 100, txNext := 2, txAcked := 2
    conn :=
      { Conn.fresh with txSynSent := true, txFinSent := true, txEof := true, rxSynSeen := true, rxEnded := true } }

/-- CLOSED. -/
def closed : State := { lingering with conn := { lingering.conn with active := false } }

/-- RESET. -/
def errored : State := { established with conn := { established.conn with active := false, err := true } }

/-! ## WellFormed -/

theorem test_wellFormed_aligned : (HostAccess.read 0xF8 8).wellFormed = true := by decide
theorem test_wellFormed_narrow : (HostAccess.read 0x38 4).wellFormed = false := by decide
theorem test_wellFormed_misaligned : (HostAccess.write 0x0C 8 1).wellFormed = false := by decide
theorem test_wellFormed_line : (AsmLine.cmd ⟨.segRx, [.S, .A], some 1000⟩).wellFormed = true := by decide
theorem test_wellFormed_letter : (AsmCmd.mk .txSent [.R] none).wellFormed = false := by decide
theorem test_wellFormed_order : (AsmCmd.mk .segRx [.A, .S] none).wellFormed = false := by decide
theorem test_wellFormed_win : (AsmCmd.mk .tick [] (some 1)).wellFormed = false := by decide
theorem test_wellFormed_range : (AsmCmd.mk .segRx [] (some 65536)).wellFormed = false := by decide

/-! ## Decoding: words written out from the patterns of 30_encoding.md R85 -/

theorem test_decode_nop : decode 0b00000000000000000000000000000000 = .ok .nop := by decide
theorem test_decode_wrap : decode 0b00000000000000000000000000000001 = .ok .wrap := by decide
theorem test_decode_unwrap : decode 0b00000000000000000000000000000010 = .ok .unwrap := by decide
theorem test_decode_seglen : decode 0b00000000000000000000001000000011 = .ok (.seglen false true) := by decide
theorem test_decode_tmrStart : decode 0b00000000000000000000000000010000 = .ok .tmrStart := by decide
theorem test_decode_tmrStop : decode 0b00000000000000000000000000010001 = .ok .tmrStop := by decide
theorem test_decode_tmrReset : decode 0b00000000000000000000000000010010 = .ok .tmrReset := by decide
theorem test_decode_tmrDouble : decode 0b00000000000000000000000000010011 = .ok .tmrDouble := by decide
theorem test_decode_tmrTick : decode 0b00000000000000000000000000010100 = .ok .tmrTick := by decide
theorem test_decode_tmrQuery : decode 0b00000000000000000000000000010101 = .ok .tmrQuery := by decide
/-- The example of R88: `cmd SEG_RX.SA win=1000` is 0x03E80920. -/
theorem test_decode_segRx :
    decode 0b00000011111010000000100100100000 = .ok (.segRx true false false true 1000) := by decide
theorem test_decode_segRx_rst : decode 0x00000420 = .ok (.segRx false false true false 0) := by decide
theorem test_decode_segEnd : decode 0b00000000000000000000000000100001 = .ok .segEnd := by decide
theorem test_decode_rxStatus : decode 0b00000000000000000001000000100010 = .ok (.rxStatus true) := by decide
theorem test_decode_txSent : decode 0b00000000000000000000000100100011 = .ok (.txSent true false) := by decide
theorem test_decode_txRetire : decode 0b00000000000000000000000000100100 = .ok .txRetire := by decide
theorem test_decode_txEof : decode 0b00000000000000000000000000100101 = .ok .txEof := by decide
theorem test_decode_tick : decode 0b00000000000000000000000000100110 = .ok .tick := by decide
theorem test_decode_eval : decode 0b00000000000000000000000000100111 = .ok .eval := by decide
theorem test_decode_close : decode 0b00000000000000000000000000101000 = .ok .close := by decide
theorem test_decode_stamp : decode 0b00000000000000000000000000101001 = .ok .stamp := by decide
theorem test_decode_init : decode 0b00000000000000000000000000101010 = .ok .init := by decide
theorem test_decode_reserved_low : decode 0x00000004 = .error .reservedOp := by decide
theorem test_decode_reserved_high : decode 0x0000002B = .error .reservedOp := by decide
theorem test_decode_unused_flag : decode 0x00000122 = .error .unusedField := by decide
theorem test_decode_unused_imm : decode 0x00010023 = .error .unusedField := by decide
theorem test_decode_reserved_flag : decode 0x00002020 = .error .unusedField := by decide
theorem test_encode_segRx : encode (.segRx true false false true 1000) = 0x03E80920 := by decide
theorem test_asmWord : asmWord ⟨.segRx, [.S, .A], some 1000⟩ = 0x03E80920 := by decide
theorem test_tableWord : decodeTableWord 32 0x03E80920 = some (.segRx true false false true 1000) := by decide
theorem test_tableWord_illegal : decodeTableWord 32 0x00000104 = none := by decide

/-- `segrx.SA 5000, 1001, 0 win=4096` writes ARG0, ARG1 and the command (R89, R183's example). -/
theorem test_segrx_macro :
    (asmSegrx [.S, .A] 5000 1001 0 (some 4096)).map asmAccess =
      [.write 0x08 8 0x000003E900001388, .write 0x10 8 0, .write 0x00 8 0x10000920] := by decide

/-- withFetchWord makes the very next step run the command. -/
theorem test_withFetchWord :
    after (step (t0.withFetchWord 32 0x25)) (fun t => t.conn.txEof && t.hostQueue.isEmpty) = true := by decide

/-! ## Sequence space -/

/-- V1 (R104's example). -/
theorem test_wrap : after (exec .wrap { t0 with arg0 := 0x300000011, arg1 := 15 }) (fun t => t.res0 == 32) = true := by
  decide
/-- V6: ARG1[63:32] is ignored. -/
theorem test_wrap_isn :
    after (exec .wrap { t0 with arg0 := 5, arg1 := 0x10000000F }) (fun t => t.res0 == 20) = true := by decide
/-- V12 (R105's example): a tie goes to the smaller. -/
theorem test_unwrap_tie : after (exec .unwrap { t0 with arg2 := 0x80000000 }) (fun t => t.res0 == 0) = true := by decide
/-- V14: the last lap. -/
theorem test_unwrap_top :
    after (exec .unwrap { t0 with arg2 := 0xFFFFFFFFFFFFFFFF }) (fun t => t.res0 == 0xFFFFFFFF00000000) = true := by
  decide
/-- V32 (R106's example). -/
theorem test_seglen : after (exec (.seglen true true) { t0 with arg0 := 3 }) (fun t => t.res0 == 5) = true := by decide
/-- V34: the largest length. -/
theorem test_seglen_largest :
    after (exec (.seglen true true) { t0 with arg0 := 0xFFFFFFFF }) (fun t => t.res0 == 0x100000001) = true := by decide

/-! ## Timer -/

/-- T1. -/
theorem test_tmrStart :
    after (exec .tmrStart { t0 with tmrElapsed := 700 }) (fun t => t.tmrElapsed == 0 && t.conn.tmrRunning) = true := by
  decide
/-- T2. -/
theorem test_tmrStop :
    after (exec .tmrStop { sending with tmrElapsed := 700 }) (fun t => t.tmrElapsed == 700 && !t.conn.tmrRunning) =
      true := by decide
/-- T3. -/
theorem test_tmrReset : after (exec .tmrReset { t0 with tmrRto := 8000 }) (fun t => t.tmrRto == 1000) = true := by decide
/-- T5: the doubling saturates. -/
theorem test_tmrDouble :
    after (exec .tmrDouble { t0 with tmrRto := 0x8000000000000005 }) (fun t => t.tmrRto == 0xFFFFFFFFFFFFFFFF) =
      true := by decide
/-- T8: the sum saturates. -/
theorem test_tmrTick :
    after (exec .tmrTick { sending with tmrElapsed := 0xFFFFFFFFFFFFFFF6, arg0 := 100 })
      (fun t => t.tmrElapsed == 0xFFFFFFFFFFFFFFFF) = true := by decide
/-- T7: a stopped timer does not advance. -/
theorem test_tmrTick_stopped :
    after (exec .tmrTick { t0 with tmrElapsed := 400, arg0 := 600 }) (fun t => t.tmrElapsed == 400) = true := by decide
/-- T10 (R132's example). -/
theorem test_tmrQuery :
    after (exec .tmrQuery { sending with tmrElapsed := 1000 })
      (fun t => t.res0 == 1000 && t.res1 == 1000 && t.status.req.expired) = true := by decide

/-! ## Sender -/

/-- S1 (R141's example). -/
theorem test_txSent :
    after (exec (.txSent true false) { t0 with cfgTxIsn := 1000 })
      (fun t => t.res1 == 1000 && t.txNext == 1 && t.txInflight == 1 && stateTag t == .synSent) = true := by decide
/-- S7: TX_NEXT + L would pass 2^64 - 1. -/
theorem test_txSent_overflow :
    after (exec (.txSent false false) { synSent with txNext := 0xFFFFFFFFFFFFFFFE, arg0 := 2 })
      (fun t => t.status.code == .einval && t.txNext == 0xFFFFFFFFFFFFFFFE) = true := by decide
/-- RT2: a part is retired, and the timer restarts. -/
theorem test_txRetire :
    after (exec .txRetire { sending with txAcked := 6, retxCount := 2, tmrRto := 4000, tmrElapsed := 50, arg0 := 5 })
      (fun t => t.txInflight == 5 && t.retxCount == 0 && t.tmrRto == 1000 && t.tmrElapsed == 0 && t.conn.tmrRunning) =
      true := by decide
/-- RT3: it would retire unacknowledged numbers. -/
theorem test_txRetire_unacked :
    after (exec .txRetire { sending with txAcked := 6, arg0 := 6 })
      (fun t => t.status.code == .einval && t.txInflight == 10) = true := by decide
/-- EF1. -/
theorem test_txEof : after (exec .txEof t0) (fun t => t.conn.txEof && stateTag t == .listen) = true := by decide
/-- EF2. -/
theorem test_txEof_inactive :
    after (exec .txEof closed) (fun t => t.status.code == .einactive && t.conn == closed.conn) = true := by decide

/-! ## Receiver -/

/-- R163's example. -/
theorem test_rxStatus :
    after (exec (.rxStatus true) { established with arg0 := 3, arg1 := 3 })
      (fun t => t.rxAssembled == 3 && t.rxBuffered == 3 && t.conn.rxEnded) = true := by decide
/-- Q5: buffered above assembled. -/
theorem test_rxStatus_buffered :
    after (exec (.rxStatus false) { established with rxAssembled := 5, arg0 := 6, arg1 := 7 })
      (fun t => t.status.code == .einval && t.rxAssembled == 5) = true := by decide
/-- M1 (R164's example). -/
theorem test_stamp :
    after
      (exec .stamp
        { established with
          rxAssembled := 3, rxBuffered := 3, cfgCapacity := 4096, conn := { established.conn with rxEnded := true } })
      (fun t => t.res0 == 5005 && t.res1 == 4093 && t.res2 == 1 && t.status.req.stampv) = true := by decide
/-- M2: no SYN is seen. -/
theorem test_stamp_none :
    after (exec .stamp { synSent with cfgTxIsn := 77, res0 := 9, res1 := 9 })
      (fun t => t.res0 == 0 && t.res1 == 0 && t.res2 == 78 && !t.status.req.stampv) = true := by decide

/-! ## Connection -/

/-- R182's example: STATUS = STATE << 24. -/
theorem test_nop : after (exec .nop lingering) (fun t => statusWord t == 0x05000000) = true := by decide
/-- R183's example. -/
theorem test_segRx :
    after (exec (.segRx true false false true 4096) { synSent with arg0 := 0x000003E900001388 })
      (fun t =>
        t.rxIsn == 5000 && t.res1 == 1 && t.txAcked == 1 && t.txWindow == 4096 && t.seglLen == 1 && t.status.req.fwd &&
          t.status.req.ackv && t.status.req.pend) = true := by decide
/-- A3: an acknowledgment above TX_NEXT changes nothing of the sender. -/
theorem test_segRx_ack :
    after (exec (.segRx false false false true 300) { sending with arg0 := 0x000003F400001389 })
      (fun t => t.txAcked == 1 && t.txWindow == 1 && t.res1 == 12 && !t.status.req.ackv && t.conn.segPend) = true := by
  decide
/-- SG1: a keep-alive. -/
theorem test_segEnd :
    after (exec .segEnd { pending with seglSeqno := 100 })
      (fun t => t.status.req.emptyReq && t.status.req.keepalive && !t.conn.segPend) = true := by decide
/-- SG5: the inbound stream has ended first. -/
theorem test_segEnd_linger :
    after (exec .segEnd { pending with seglLen := 1, seglSeqno := 101, conn := { pending.conn with rxEnded := true } })
      (fun t => !t.conn.linger && t.status.req.emptyReq && stateTag t == .finWait) = true := by decide
/-- TK2 (R187's example). -/
theorem test_tick :
    after (exec .tick { sending with txWindow := 5, arg0 := 1000 })
      (fun t =>
        t.retxCount == 1 && t.tmrRto == 2000 && t.tmrElapsed == 0 && t.status.req.retxReq && t.status.req.expired) =
      true := by decide
/-- TK5: the retransmission limit. -/
theorem test_tick_limit :
    after (exec .tick { sending with retxCount := 8, arg0 := 1000 })
      (fun t => statusWord t == 0x071A0600 && t.retxCount == 9 && !t.conn.active && t.conn.err) = true := by decide
/-- SD1: one millisecond before the end of the linger period. -/
theorem test_eval_linger :
    after (exec .eval { lingering with timeSinceRx := 9999 }) (fun t => t.conn.active && !t.status.req.closedNow) =
      true := by decide
/-- SD2: the linger period is over. -/
theorem test_eval :
    after (exec .eval { lingering with timeSinceRx := 10000 })
      (fun t => !t.conn.active && !t.conn.err && t.status.req.closedNow) = true := by decide
/-- R189's example. -/
theorem test_close : after (exec .close established) (fun t => stateTag t == .reset && t.status.req.rstReq) = true := by
  decide
/-- R189: idempotent. -/
theorem test_close_again :
    after (exec .close errored) (fun t => t.conn == errored.conn && t.status == {}) = true := by decide
/-- R190's example. -/
theorem test_init : after (exec .init closed) (fun t => stateTag t == .listen && t.txWindow == 1) = true := by decide
/-- R190: refused on a live connection. -/
theorem test_init_live : after (exec .init established) (fun t => t.status.code == .einval) = true := by decide

/-! ## Witnesses: decoding and the register window -/

/-- A command that changes a field of CONN from one value to the other. -/
def flips (i : Instr) (s : State) (field : Conn → Bool) (old new : Bool) : Bool :=
  field s.conn == old && after (exec i s) (fun t => field t.conn == new)

/-- A command that changes a 64-bit register. -/
def changes (i : Instr) (s : State) (reg : State → U64) : Bool := after (exec i s) (fun t => reg t != reg s)

/-- A command that completes, and where the state tag goes. -/
def moves (i : Instr) (s : State) (src dst : Tag) : Bool :=
  stateTag s == src && after (exec i s) (fun t => t.status.code == .ok && stateTag t == dst)

theorem witness_rowSelected : Mnemonic.segRx.row.selects 0x03E80920 = true := by decide
/-- The first reserved value above the map: no row selects it. -/
theorem witness_noRow : ∀ m : Mnemonic, m.row.selects (low32 0x2B) = false := by
  intro m
  cases m <;> decide
theorem witness_noRow_step :
    after (step (offering t0 (.write 0x00 8 0x2B))) (fun t => t.status.code == .eopc) = true := by decide
theorem witness_asm_window : (AsmCmd.mk .segRx [.S, .F, .R, .A] (some 65535)).wellFormed = true := by decide
theorem witness_asm_plain : (AsmCmd.mk .tick [] none).wellFormed = true := by decide
theorem witness_commandWrite :
    (offering sending (.write 0x00 8 0xFFFFFFFF00000026)).hostQueue = [.write 0x00 8 0xFFFFFFFF00000026] ∧
      decode (low32 0xFFFFFFFF00000026) = .ok .tick := by decide
theorem witness_idle : t0.hostQueue = [] := by decide
theorem witness_badRead : step (offering t0 (.read 0x38 4)) = .refused (.badAccess 0x38 4) := rfl
theorem witness_badRead_misaligned : step (offering t0 (.read 0x3C 8)) = .refused (.badAccess 0x3C 8) := rfl
theorem witness_badWrite : step (offering t0 (.write 0x00 16 0x26)) = .refused (.badAccess 0x00 16) := rfl
theorem witness_badWrite_misaligned :
    step (offering t0 (.write 0xFF 8 0)) = .refused (.badAccess 0xFF 8) := rfl
theorem witness_goodAccesses :
    ∀ a ∈ (runLines [.rd .seglLen, .cmd ⟨.tick, [], none⟩, .wr .arg0 7] t0).hostQueue, a.wellFormed = true := by decide
/-- The last register, and the first and the last reserved slot. -/
theorem witness_read_slots :
    after (step (offering { pending with seglLen := 9 } (.read 0xC8 8))) (fun t => t.readData == 9) = true ∧
      after (step (offering { pending with readData := 9 } (.read 0xD0 8))) (fun t => t.readData == 0) = true ∧
      after (step (offering { pending with readData := 9 } (.read 0xF8 8))) (fun t => t.readData == 0) = true := by decide
/-- The first and the last writable slot, CFG_TX_ISN before and after the own SYN, and the last slot. -/
theorem witness_write_slots :
    after (step (offering t0 (.write 0x08 8 5))) (fun t => t.arg0 == 5) = true ∧
      after (step (offering t0 (.write 0x60 8 0x100000005))) (fun t => t.cfgTxIsn == 5) = true ∧
      after (step (offering synSent (.write 0x60 8 5))) (fun t => t.cfgTxIsn == 1000) = true ∧
      step (offering t0 (.write 0xF8 8 5)) = .next t0 := ⟨by decide, by decide, by decide, rfl⟩
/-- A write and a read, each made twice. -/
theorem witness_idempotent :
    after (step (offering t0 (.write 0x08 8 5)))
        (fun t => t.arg0 == 5 && after (step (offering t (.write 0x08 8 5))) (fun u => u == t)) = true ∧
      after (step (offering pending (.read 0x40 8)))
        (fun t => t.readData == connWord pending && after (step (offering t (.read 0x40 8))) (fun u => u == t)) = true := by
  decide
theorem witness_littleEndian :
    (0xF8 : BitVec 8).toNat % 8 = 0 ∧ windowByte { t0 with arg0 := 0x0102030405060708 } 0x0F = 0x01 ∧
      windowByte { t0 with arg0 := 0x0102030405060708 } 0x08 = 0x08 := by decide
theorem witness_laterAccess :
    (offering t0 (.write 0x08 8 5)).hostQueue ≠ [] ∧
      after (step ((offering t0 (.write 0x08 8 5)).offer (.read 0x08 8)))
        (fun t => t.arg0 == 5 && t.hostQueue == [.read 0x08 8]) = true := by decide
/-- The bytes on either side of the written slot. -/
theorem witness_slotWrite :
    (0x07 : BitVec 8).toNat < (0x08 : BitVec 8).toNat ∧ (0x08 : BitVec 8).toNat + 8 ≤ (0x10 : BitVec 8).toNat ∧
      after (step (offering t0 (.write 0x08 8 5))) (fun t => windowByte t 0x08 == 5) = true := by decide
theorem witness_outsideWindow : Config.base ≤ Config.base + 255 ∧ Config.base + 256 ≤ Config.base + 256 := by omega

/-! ## Witnesses: reset and the state tag -/

/-- FIN_WAIT: the own FIN is sent and not acknowledged. -/
def finWait : State := { lingering with txAcked := 1, txInflight := 1 }

theorem witness_stateTag_inactive :
    (closed.conn.active = false ∧ stateTag closed = .closed) ∧ errored.conn.active = false ∧ stateTag errored = .reset := by
  decide
theorem witness_stateTag_linger :
    lingering.conn.rxEnded = true ∧ lingering.conn.txFinSent = true ∧ lingering.txAcked = lingering.txNext ∧
      stateTag lingering = .linger := by decide
theorem witness_stateTag_finWait : finWait.conn.txFinSent = true ∧ finWait.txAcked ≠ finWait.txNext ∧
    stateTag finWait = .finWait := by decide
theorem witness_stateTag_open :
    stateTag established = .established ∧ stateTag synRcvd = .synRcvd ∧ stateTag synSent = .synSent ∧
      stateTag t0 = .listen := by decide

/-! ## Witnesses: sequence space and timer -/

theorem witness_unwrapMember : (0x300000011 : U64).setWidth 32 = (0x20 : U32) - 0xF := by decide
theorem witness_law2 : |((0x7FFFFFFF : U64).toNat : Int) - (0 : U64).toNat| < 2 ^ 31 := by decide
/-- Both ends of law 4's range, the first one with its equality. -/
theorem witness_law4 :
    2 ^ 31 ≤ (0x80000000 : U64).toNat ∧ (0xFFFFFFFF7FFFFFFF : U64).toNat ≤ 2 ^ 64 - 2 ^ 31 - 1 ∧
      (unwrap 0 0 0x80000000).toNat = (0x80000000 : U64).toNat - 2 ^ 31 := by decide
theorem witness_rto :
    changes .tmrDouble t0 (·.tmrRto) = true ∧ changes .tmrReset { t0 with tmrRto := 7 } (·.tmrRto) = true ∧
      changes .tmrTick { sending with arg0 := 5 } (·.tmrElapsed) = true ∧
      changes .tmrStart { sending with tmrElapsed := 5 } (·.tmrElapsed) = true := by decide

/-! ## Witnesses: each command's refusals and its completion -/

theorem witness_txSent_einactive : closed.conn.active = false := by decide
/-- The five refusals, each alone. -/
theorem witness_txSent_einval :
    after (exec (.txSent false false) { established with arg0 := 0xFFFFFFFF00000000 }) (fun t => t.status.code == .einval) = true ∧
      after (exec (.txSent false false) { lingering with arg0 := 1 }) (fun t => t.status.code == .einval) = true ∧
      after (exec (.txSent true false) { established with arg0 := 1 }) (fun t => t.status.code == .einval) = true ∧
      after (exec (.txSent false false) { t0 with arg0 := 1 }) (fun t => t.status.code == .einval) = true ∧
      after (exec (.txSent false true) { established with txNext := 0xFFFFFFFFFFFFFFFF }) (fun t => t.status.code == .einval) =
        true := by decide
/-- The largest index is reached exactly. -/
theorem witness_txSent_ok :
    established.conn.active = true ∧ b2n false + (1 : U64).toNat % 2 ^ 32 + b2n false ≠ 0 ∧
      established.conn.txFinSent = false ∧ false ≠ established.conn.txSynSent ∧
      (0xFFFFFFFFFFFFFFFE : U64).toNat + 1 ≤ 2 ^ 64 - 1 ∧ established.txInflight.toNat ≤ established.txNext.toNat := by
  decide
theorem witness_txRetire_einval :
    sending.conn.active = true ∧ sending.txAcked.toNat ≤ sending.txNext.toNat ∧ sending.txInflight.toNat < (11 : U64).toNat ∧
      (sending.txInflight.toNat : Int) - (6 : U64).toNat < (sending.txNext.toNat : Int) - (6 : U64).toNat := by decide
theorem witness_txRetire_ok :
    sending.conn.active = true ∧ sending.txAcked.toNat ≤ sending.txNext.toNat ∧ (5 : U64).toNat ≤ sending.txInflight.toNat ∧
      (sending.txNext.toNat : Int) - (6 : U64).toNat ≤ (sending.txInflight.toNat : Int) - (5 : U64).toNat := by decide
theorem witness_txEof : closed.conn.active = false ∧ established.conn.active = true := by decide
theorem witness_rxStatus_einval :
    after (exec (.rxStatus true) synSent) (fun t => t.status.code == .einval) = true ∧
      after (exec (.rxStatus false) { established with rxAssembled := 5, arg0 := 4 }) (fun t => t.status.code == .einval) = true ∧
      after (exec (.rxStatus false) { established with arg1 := 1 }) (fun t => t.status.code == .einval) = true ∧
      after (exec (.rxStatus false) lingering) (fun t => t.status.code == .einval) = true ∧
      after (exec (.rxStatus true) { lingering with arg0 := 1 }) (fun t => t.status.code == .einval) = true := by decide
theorem witness_rxStatus_ok :
    after (exec (.rxStatus false) synSent) (fun t => t.status.code == .ok) = true ∧
      after (exec (.rxStatus true) lingering) (fun t => t.status.code == .ok) = true ∧
      after (exec (.rxStatus false) { established with arg0 := 5, arg1 := 5 }) (fun t => t.status.code == .ok) = true := by decide
theorem witness_stamp : synSent.conn.rxSynSeen = false ∧ established.conn.rxSynSeen = true := by decide
theorem witness_segRx_eseq : pending.conn.segPend = true := by decide
theorem witness_segRx_einactive : closed.conn.segPend = false ∧ closed.conn.active = false := by decide
theorem witness_segRx_discard :
    synSent.conn.segPend = false ∧ synSent.conn.active = true ∧ synSent.conn.rxSynSeen = false := by decide
/-- A segment is processed once the peer's SYN is seen, and a SYN is processed before that. -/
theorem witness_segRx_processed :
    (established.conn.segPend = false ∧ established.conn.active = true ∧ established.conn.rxSynSeen = true) ∧
      after (exec (.segRx true false false false 0) t0) (fun t => t.status.req.pend) = true := by decide
theorem witness_segRx_rst :
    after (exec (.segRx false false true false 0) established) (fun t => stateTag t == .reset) = true := by decide
theorem witness_segEnd : established.conn.segPend = false ∧ pending.conn.segPend = true := by decide
theorem witness_tick_refused :
    pending.conn.segPend = true ∧ errored.conn.segPend = false ∧ errored.conn.active = false := by decide
/-- The count at the limit, and one past it. -/
theorem witness_tick_ok :
    after (exec .tick { sending with retxCount := 7, arg0 := 1000 }) (fun t => t.retxCount == 8 && t.conn.active) = true ∧
      after (exec .tick { sending with retxCount := 8, arg0 := 1000 }) (fun t => t.retxCount == 9 && !t.conn.active) = true := by
  decide
theorem witness_eval_ok : established.conn.segPend = false ∧ established.conn.active = true := by decide
theorem witness_close : established.conn.active = true ∧ closed.conn.active = false := by decide
theorem witness_init : established.conn.active = true ∧ errored.conn.active = false ∧
    after (exec .init errored) (fun t => statusWord t == 0) = true := by decide

/-! ## Witnesses: whole-machine rules -/

theorem witness_refused :
    after (step (offering closed (.write 0x00 8 0x26))) (fun t => t.status.code != .ok && stateTag t == .closed) = true := by
  decide
theorem witness_codes :
    after (step (offering t0 (.write 0x00 8 0x100))) (fun t => t.status.code == .eopc) = true ∧
      after (exec .init t0) (fun t => t.status.code == .einval) = true ∧
      after (exec .eval closed) (fun t => t.status.code == .einactive) = true ∧
      after (exec .eval pending) (fun t => t.status.code == .eseq) = true ∧
      after (exec .segEnd t0) (fun t => t.status.code == .eseq) = true := by decide
theorem witness_flag_active :
    flips .init closed (·.active) false true = true ∧ flips .close t0 (·.active) true false = true := by decide
theorem witness_flag_linger :
    flips .init { closed with conn := { closed.conn with linger := false } } (·.linger) false true = true ∧
      flips .segEnd { pending with conn := { pending.conn with rxEnded := true } } (·.linger) true false = true := by decide
theorem witness_flag_err :
    flips .close t0 (·.err) false true = true ∧ flips .init errored (·.err) true false = true := by decide
theorem witness_flag_txSynSent :
    flips (.txSent true false) t0 (·.txSynSent) false true = true ∧ flips .init closed (·.txSynSent) true false = true := by
  decide
theorem witness_flag_txFinSent :
    flips (.txSent false true) established (·.txFinSent) false true = true ∧
      flips .init closed (·.txFinSent) true false = true := by decide
theorem witness_flag_txEof :
    flips .txEof t0 (·.txEof) false true = true ∧ flips .init closed (·.txEof) true false = true := by decide
theorem witness_flag_rxSynSeen :
    flips (.segRx true false false false 0) t0 (·.rxSynSeen) false true = true ∧
      flips .init closed (·.rxSynSeen) true false = true := by decide
theorem witness_flag_rxEnded :
    flips (.rxStatus true) established (·.rxEnded) false true = true ∧ flips .init closed (·.rxEnded) true false = true := by
  decide
theorem witness_flag_tmrRunning :
    flips .tmrStart t0 (·.tmrRunning) false true = true ∧ flips .tmrStop sending (·.tmrRunning) true false = true := by decide
theorem witness_flag_segPend :
    flips (.segRx false false false false 0) established (·.segPend) false true = true ∧
      flips .segEnd pending (·.segPend) true false = true := by decide
theorem witness_flag_txd :
    flips .stamp established (·.txd) false true = true ∧
      flips (.segRx true false false true 0) synSent (·.txd) true false = true := by decide
theorem witness_registers_result :
    changes .stamp established (·.res0) = true ∧ changes .stamp established (·.res1) = true ∧
      changes .stamp established (·.res2) = true := by decide
theorem witness_registers_sender :
    changes (.txSent true false) t0 (·.txNext) = true ∧ changes (.txSent true false) t0 (·.txInflight) = true ∧
      changes (.segRx false false false true 9) { sending with arg0 := 0x000003EA00001389 } (·.txAcked) = true ∧
      changes (.segRx false false false true 9) { sending with arg0 := 0x000003EA00001389 } (·.txWindow.setWidth 64) = true ∧
      changes .tick { sending with arg0 := 1000 } (·.retxCount.setWidth 64) = true := by decide
theorem witness_registers_receiver :
    changes (.segRx true false false false 0) { t0 with arg0 := 5 } (·.rxIsn.setWidth 64) = true ∧
      changes (.rxStatus false) { established with arg0 := 5, arg1 := 5 } (·.rxAssembled) = true ∧
      changes (.rxStatus false) { established with arg0 := 5, arg1 := 5 } (·.rxBuffered) = true ∧
      changes (.segRx true false false false 0) { t0 with arg0 := 5 } (·.seglSeqno.setWidth 64) = true ∧
      changes (.segRx true false false false 0) t0 (·.seglLen) = true ∧
      changes .tick { established with arg0 := 5 } (·.timeSinceRx) = true := by decide
/-- The upper half of ARG1 differs, and WRAP does not read it. -/
theorem witness_unnamedBits :
    (0x10000000F : U64) &&& (operandBits .wrap).2.1 = 0xF &&& (operandBits .wrap).2.1 ∧
      (7 : U64) &&& (operandBits .wrap).2.2 = 0 &&& (operandBits .wrap).2.2 := by decide
theorem witness_inv_closed : Inv closed := by constructor <;> decide
theorem witness_inv_errored : Inv errored := by constructor <;> decide
theorem witness_terminal :
    closed.conn.active = false ∧ after (exec .tmrStart closed) (fun t => t.conn.tmrRunning && stateTag t == .closed) = true ∧
      after (exec .stamp errored) (fun t => t.conn.txd && stateTag t == .reset) = true := by decide
theorem witness_opening_active : moves (.txSent true false) t0 .listen .synSent = true := by decide
theorem witness_opening_passive : moves (.segRx true false false false 0) t0 .listen .synRcvd = true := by decide
/-- R183's example. -/
theorem witness_opening_established :
    moves (.segRx true false false true 4096) { synSent with arg0 := 0x000003E900001388 } .synSent .established = true ∧
      after (exec (.segRx true false false true 4096) { synSent with arg0 := 0x000003E900001388 })
        (fun t => t.status.req.ackv && decide (1 ≤ t.txAcked.toNat)) = true := by decide
/-- The acknowledgment of a simultaneous open is above TX_NEXT. -/
theorem witness_opening_simultaneous :
    SynBeforeAck synSent ∧
      moves (.segRx true false false true 0) { synSent with arg0 := 0x000003F000001388 } .synSent .synRcvd = true := by
  constructor
  · intro _
    rfl
  · decide
/-- The peer's SYN segment is pending, as when the host answers it (70_reset_and_hazards.md R262 HD3). -/
def synPending : State := { synRcvd with conn := { synRcvd.conn with segPend := true } }

theorem witness_opening_ownSyn : Inv synPending ∧ moves (.txSent true false) synPending .synRcvd .synRcvd = true := by
  refine ⟨?_, by decide⟩
  constructor <;> decide
theorem witness_opening_between :
    moves .stamp synPending .synRcvd .synRcvd = true ∧ moves .segEnd synPending .synRcvd .synRcvd = true ∧
      moves (.rxStatus false) synPending .synRcvd .synRcvd = true := by decide
/-- Two segments, one with the SYN again. -/
theorem witness_opening_acknowledged :
    moves (.segRx false false false true 0)
        { synRcvd with txNext := 1, arg0 := 0x0000000100001389, conn := { synRcvd.conn with txSynSent := true } }
        .synRcvd .established = true ∧
      moves (.segRx true false false true 0)
        { synRcvd with txNext := 1, arg0 := 0x0000000100001388, conn := { synRcvd.conn with txSynSent := true } }
        .synRcvd .established = true := by decide
/-- Program P2's order: TX_SENT.S, STAMP, SEG_END, then SEG_RX.A. -/
theorem witness_opening_answered :
    after (exec (.txSent true false) synPending) (fun t =>
      t.status.code == .ok && after (exec .stamp t) (fun v => after (exec .segEnd v) (fun w =>
        w.status.code == .ok && after (exec (.segRx false false false true 0) { w with arg0 := 0x0000000100001389 })
          (fun u => stateTag u == .established && u.status.req.ackv)))) = true := by decide
theorem witness_closing_finWait :
    moves (.txSent false true) established .established .finWait = true ∧
      moves (.rxStatus true) established .established .finWait = true := by decide
theorem witness_closing_linger_ended :
    lingering.conn.txFinSent = true ∧ lingering.txAcked = lingering.txNext ∧
      moves (.rxStatus true) { lingering with conn := { lingering.conn with rxEnded := false } } .finWait .linger = true := by
  decide
/-- The acknowledgment of the own FIN: ackno 2 is wrap(TX_NEXT, CFG_TX_ISN). -/
theorem witness_closing_linger_acked :
    Inv { finWait with arg0 := 0x0000000200000066 } ∧
      (0x0000000200000066 : U64).extractLsb' 32 32 = wrap finWait.txNext finWait.cfgTxIsn ∧
      moves (.segRx false false false true 0) { finWait with arg0 := 0x0000000200000066 } .finWait .linger = true := by
  refine ⟨?_, by decide, by decide⟩
  constructor <;> decide
/-- The own FIN is sent after the inbound stream has ended. -/
theorem witness_closing_finSent :
    Inv { established with conn := { established.conn with rxEnded := true } } ∧
      moves (.txSent false true) { established with conn := { established.conn with rxEnded := true } } .finWait .finWait =
        true := by
  refine ⟨?_, by decide⟩
  constructor <;> decide
/-- LINGER with the flag cleared; for TICK, the count at the limit. -/
theorem witness_closing_closed :
    Inv { lingering with conn := { lingering.conn with linger := false } } ∧
      moves .eval { lingering with conn := { lingering.conn with linger := false } } .linger .closed = true ∧
      moves .tick { lingering with retxCount := 8, conn := { lingering.conn with linger := false } } .linger .closed = true ∧
      moves .segEnd { lingering with conn := { lingering.conn with linger := false, segPend := true } } .linger .closed = true := by
  refine ⟨?_, by decide, by decide, by decide⟩
  constructor <;> decide
/-- The last millisecond of the linger period. -/
theorem witness_closing_period : Inv lingering ∧ moves .tick { lingering with arg0 := 10000 } .linger .closed = true := by
  refine ⟨?_, by decide⟩
  constructor <;> decide
theorem witness_closing_reset :
    moves (.segRx false false true false 0) finWait .finWait .reset = true ∧
      moves .tick { sending with retxCount := 8, arg0 := 1000 } .established .reset = true ∧
      moves .tick { established with retxCount := 9 } .established .reset = true ∧ moves .close t0 .listen .reset = true ∧
      moves .init errored .reset .listen = true ∧ moves .init closed .closed .listen = true := by decide

/-! ## Witnesses: invariants and runs -/

theorem witness_inv_step :
    Inv (offering sending (.write 0x00 8 0x26)) ∧
      after (step (offering sending (.write 0x00 8 0x26))) (fun t => t.hostQueue.isEmpty) = true := by
  refine ⟨?_, by decide⟩
  constructor <;> decide
theorem witness_synBeforeAck_step :
    SynBeforeAck (offering synSent (.write 0x00 8 0x29)) ∧
      after (step (offering synSent (.write 0x00 8 0x29))) (fun t => t.conn.txd) = true := by
  refine ⟨?_, by decide⟩
  intro _
  rfl
theorem witness_timerInv :
    Instr.tick.mnemonic ∉ [Mnemonic.tmrStart, .tmrStop, .tmrReset, .tmrDouble, .tmrTick, .tmrQuery] ∧ Inv sending ∧
      TimerInv sending ∧ after (exec .tick { sending with arg0 := 1000 }) (fun t => t.conn.tmrRunning) = true := by
  refine ⟨by decide, by constructor <;> decide, ?_, by decide⟩
  intro _
  decide
theorem witness_reachable : Reachable (State.reset.offer (cmdWrite 0x10)) := .offer _ trivial .reset
theorem witness_reachableBy : ReachableBy (fun a => usesTimerCommand a = false) (State.reset.offer (cmdWrite 0x26)) :=
  .offer _ (by decide) .reset
/-- Eight expiries within the limit, and the ninth past it. -/
theorem witness_unanswered :
    sending.conn.active = true ∧ sending.conn.segPend = false ∧ sending.conn.tmrRunning = true ∧ sending.txInflight ≠ 0 ∧
      sending.txWindow ≠ 0 ∧ sending.txAcked ≠ sending.txNext ∧ sending.retxCount.toNat ≤ sending.cfgMaxRetx.toNat ∧
      sending.cfgMaxRetx.toNat < 2 ^ 32 - 1 ∧ 8 ≤ sending.cfgMaxRetx.toNat - sending.retxCount.toNat := by decide

end Sys2Proof.Tests
end

section
/-! The saturating operations read as exact numbers (00_scope.md R11). -/

namespace Sys2Proof.Machine

/-- A number capped at the largest `w`-bit value survives the conversion to `w` bits. -/
theorem toNat_ofNat_min_max (w n : Nat) :
    (BitVec.ofNat w (min n (2 ^ w - 1))).toNat = min n (2 ^ w - 1) := by
  have hcap : min n (2 ^ w - 1) < 2 ^ w :=
    (Nat.min_le_right _ _).trans_lt (Nat.sub_one_lt (Nat.two_pow_pos w).ne')
  rw [BitVec.toNat_ofNat, Nat.mod_eq_of_lt hcap]

theorem toNat_satAdd64 (a b : U64) : (satAdd64 a b).toNat = min (a.toNat + b.toNat) (2 ^ 64 - 1) :=
  toNat_ofNat_min_max 64 _

theorem toNat_satAdd32 (a b : U32) : (satAdd32 a b).toNat = min (a.toNat + b.toNat) (2 ^ 32 - 1) :=
  toNat_ofNat_min_max 32 _

theorem toNat_satDbl64 (a : U64) : (satDbl64 a).toNat = min (2 * a.toNat) (2 ^ 64 - 1) :=
  toNat_ofNat_min_max 64 _

/-- The model's saturating difference is the truncated difference of natural numbers: no borrow in the first
branch, and 0 on both sides in the second. -/
theorem toNat_satSub64 (a b : U64) : (satSub64 a b).toNat = a.toNat - b.toNat := by
  unfold satSub64
  split
  next hle => exact BitVec.toNat_sub_of_le hle
  next hlt => exact (Nat.sub_eq_zero_of_le (Nat.le_of_not_le hlt)).symm

/-- Settles O21: each saturating operation agrees with its definition over exact integers. -/
theorem saturatingArithmetic : Obligations.SaturatingArithmetic :=
  ⟨toNat_satAdd64, toNat_satAdd32, toNat_satDbl64, toNat_satSub64⟩

end Sys2Proof.Machine
end

section
/-! What a command can do, said once: every outcome of every command with the guard under which it happens and its
next state as one flat update. Proofs about all commands are case analyses of `Effect`. -/

namespace Sys2Proof.Machine

/-! TICK's intermediate values (44_connection.md R187 steps 3 and 4). -/

/-- TMR_ELAPSED once `dt` has passed. -/
def elapsedAfter (s : State) : U64 :=
  if s.conn.tmrRunning = true then satAdd64 s.tmrElapsed s.arg0 else s.tmrElapsed

/-- The timer expires within `dt`. -/
def tickFires (s : State) : Bool := s.conn.tmrRunning && decide (s.tmrRto.toNat ≤ (elapsedAfter s).toNat)

/-- The expiry finds outstanding data. -/
def tickResends (s : State) : Bool := tickFires s && s.txInflight != 0

/-- The expiry is penalised: the peer's window is not zero. -/
def tickCounts (s : State) : Bool := tickResends s && s.txWindow != 0

/-- RETX_COUNT after the expiry. -/
def countAfterTick (s : State) : U32 := if tickCounts s = true then satAdd32 s.retxCount 1 else s.retxCount

/-- The retransmission limit is passed. -/
def tickPasses (s : State) : Bool := decide (s.cfgMaxRetx.toNat < (countAfterTick s).toNat)

/-- The clean-shutdown check of TICK, on the time since the last segment that `dt` leaves. -/
def tickCloses (s : State) : Bool := closesCleanly s s.conn.linger (satAdd64 s.timeSinceRx s.arg0).toNat

/-- LINGER after the linger rule (44_connection.md R185). -/
def lingerAfter (c : Conn) : Bool := c.linger && !(c.rxEnded && !c.txEof)

/-- `Effect i s t`: one way for command `i` to end in state `t` from state `s`. -/
inductive Effect : Instr → State → State → Prop where
  | refused {i s} (c : Code) (h : checkOf i s = some c) :
      Effect i s { s with status := { code := c, req := {} } }
  | nop {s} : Effect .nop s (Work.complete { st := s })
  | wrap {s} :
      Effect .wrap s (Work.complete { st := { s with res0 := zext64 (Machine.wrap (wrapIndex s) (convIsn s)) } })
  | unwrap {s} :
      Effect .unwrap s (Work.complete
        { st := { s with res0 := Machine.unwrap (unwrapSeqno s) (convIsn s) (unwrapCheckpoint s) } })
  | seglen {s syn fin} :
      Effect (.seglen syn fin) s
        (Work.complete { st := { s with res0 := Machine.seglen syn (payloadLen s) fin } })
  | tmrStart {s} :
      Effect .tmrStart s
        (Work.complete { st := { s with tmrElapsed := 0, conn := { s.conn with tmrRunning := true } } })
  | tmrStop {s} :
      Effect .tmrStop s (Work.complete { st := { s with conn := { s.conn with tmrRunning := false } } })
  | tmrReset {s} : Effect .tmrReset s (Work.complete { st := { s with tmrRto := zext64 s.cfgRtoInit } })
  | tmrDouble {s} : Effect .tmrDouble s (Work.complete { st := { s with tmrRto := satDbl64 s.tmrRto } })
  | tmrTick {s} : Effect .tmrTick s (Work.complete { st := { s with tmrElapsed := elapsedAfter s } })
  | tmrQuery {s} :
      Effect .tmrQuery s (Work.complete
        { st := { s with res0 := s.tmrElapsed, res1 := s.tmrRto }, req := { expired := tExpired s } })
  | segRxReset {s syn fin ack win} (hp : s.conn.segPend = false) (ha : s.conn.active = true) :
      Effect (.segRx syn fin true ack win) s (Work.complete
        { st := { s with timeSinceRx := 0, conn := { s.conn with active := false, err := true } }
          req := { streamErr := true, closedNow := true } })
  | segRxDiscarded {s fin ack win} (hp : s.conn.segPend = false) (ha : s.conn.active = true)
      (hseen : s.conn.rxSynSeen = false) :
      Effect (.segRx false fin false ack win) s (Work.complete { st := { s with timeSinceRx := 0 } })
  | segRxProcessed {s syn fin ack win isn abs accepted} (hp : s.conn.segPend = false) (ha : s.conn.active = true)
      (hseen : s.conn.rxSynSeen = true ∨ syn = true)
      (hisn : isn = if s.conn.rxSynSeen = true then s.rxIsn else segSeqno s)
      (habs : abs = Machine.unwrap (segSeqno s) isn (s.rxAssembled + 1))
      (hacc : accepted = (ack && ackAcceptable (segAckno s) s)) :
      Effect (.segRx syn fin false ack win) s (Work.complete
        { st :=
          { s with
            timeSinceRx := 0
            rxIsn := isn
            res0 := if syn = true then 0 else if abs = 0 then 0 else abs - 1
            res1 := if ack then ackAbs (segAckno s) s else 0
            txAcked := if accepted then ackAbs (segAckno s) s else s.txAcked
            txWindow := if accepted then win else s.txWindow
            seglSeqno := segSeqno s
            seglLen := Machine.seglen syn (segPayloadLen s) fin
            conn := { s.conn with rxSynSeen := true, segPend := true, txd := false } }
          req :=
            { fwd := syn || abs != 0, last := (syn || abs != 0) && fin, ackv := accepted
              connectReq := syn && !s.conn.txSynSent, pend := true } })
  | segEnd {s closes} (hp : s.conn.segPend = true)
      (hcl : closes = closesCleanly s (lingerAfter s.conn) s.timeSinceRx.toNat) :
      Effect .segEnd s (Work.complete
        { st :=
          { s with
            conn :=
              { s.conn with
                segPend := false, linger := lingerAfter s.conn, active := s.conn.active && !closes } }
          req :=
            { emptyReq := keepaliveProbe s || ackOwed s, keepalive := keepaliveProbe s, closedNow := closes } })
  | rxStatus {s ended}
      (hno : s.conn.rxSynSeen = false → s.arg0 = 0 ∧ s.arg1 = 0 ∧ ended = false)
      (hle : s.rxAssembled.toNat ≤ s.arg0.toNat) (hbuf : s.arg1.toNat ≤ s.arg0.toNat)
      (hend : s.conn.rxEnded = true → ended = true ∧ s.arg0 = s.rxAssembled) :
      Effect (.rxStatus ended) s (Work.complete
        { st :=
          { s with
            rxAssembled := s.arg0, rxBuffered := s.arg1
            conn := { s.conn with rxEnded := s.conn.rxEnded || ended } } })
  | txSent {s syn fin len} (hlen : len = Machine.seglen syn (payloadLen s) fin) (ha : s.conn.active = true)
      (hpos : len.toNat ≠ 0) (hfin : s.conn.txFinSent = false) (hsyn : syn = !s.conn.txSynSent)
      (hfit : s.txNext.toNat + len.toNat ≤ 2 ^ 64 - 1) :
      Effect (.txSent syn fin) s (Work.complete
        { st :=
          { s with
            res0 := s.txNext
            res1 := zext64 (Machine.wrap s.txNext s.cfgTxIsn)
            txNext := s.txNext + len
            txInflight := s.txInflight + len
            tmrElapsed := if s.conn.tmrRunning then s.tmrElapsed else 0
            conn :=
              { s.conn with
                txSynSent := s.conn.txSynSent || syn
                txFinSent := s.conn.txFinSent || fin
                txEof := s.conn.txEof || fin
                tmrRunning := true
                txd := true } } })
  | txRetire {s} (ha : s.conn.active = true) (hn : s.arg0.toNat ≤ s.txInflight.toNat)
      (hout : s.txNext.toNat - s.txAcked.toNat ≤ s.txInflight.toNat - s.arg0.toNat) :
      Effect .txRetire s (Work.complete
        { st :=
          { s with
            txInflight := s.txInflight - s.arg0
            retxCount := if s.arg0 = 0 then s.retxCount else 0
            tmrRto := if s.arg0 = 0 then s.tmrRto else zext64 s.cfgRtoInit
            tmrElapsed := if s.arg0 = 0 then s.tmrElapsed else 0
            conn :=
              { s.conn with
                tmrRunning :=
                  if s.txInflight - s.arg0 = 0 then false
                  else if s.arg0 = 0 then s.conn.tmrRunning else true } } })
  | txEof {s} (ha : s.conn.active = true) :
      Effect .txEof s (Work.complete { st := { s with conn := { s.conn with txEof := true } } })
  | tick {s} (hp : s.conn.segPend = false) (ha : s.conn.active = true) :
      Effect .tick s (Work.complete
        { st :=
          { s with
            timeSinceRx := satAdd64 s.timeSinceRx s.arg0
            tmrElapsed := if tickResends s = true then 0 else elapsedAfter s
            tmrRto := if tickCounts s = true then satDbl64 s.tmrRto else s.tmrRto
            retxCount := countAfterTick s
            conn :=
              { s.conn with
                tmrRunning := s.conn.tmrRunning && !(tickFires s && s.txInflight == 0)
                active := s.conn.active && !tickPasses s && !tickCloses s
                err := s.conn.err || tickPasses s } }
          req :=
            { expired := tickFires s, retxReq := if tickPasses s then false else tickResends s
              closedNow := tickPasses s || tickCloses s, flushReq := tickPasses s, rstReq := tickPasses s
              streamErr := tickPasses s } })
  | eval {s} (hp : s.conn.segPend = false) (ha : s.conn.active = true) :
      Effect .eval s (Work.complete
        { st := { s with conn := { s.conn with active := s.conn.active && !shutdownDue s } }
          req := { closedNow := shutdownDue s } })
  | closeActive {s} (ha : s.conn.active = true) :
      Effect .close s (Work.complete
        { st := { s with conn := { s.conn with active := false, err := true, segPend := false } }
          req := { rstReq := true, streamErr := true, closedNow := true } })
  | closeInactive {s} (ha : s.conn.active = false) : Effect .close s (Work.complete { st := s })
  | stamp {s} :
      Effect .stamp s (Work.complete
        { st :=
          { s with
            res0 := if s.conn.rxSynSeen then zext64 (Machine.wrap (rxAcknoAbs s) s.rxIsn) else 0
            res1 := if s.conn.rxSynSeen then (rxWindow16 s).setWidth 64 else 0
            res2 := zext64 (Machine.wrap s.txNext s.cfgTxIsn)
            conn := { s.conn with txd := true } }
          req := { stampv := s.conn.rxSynSeen } })
  | init {s} (ha : s.conn.active = false) :
      Effect .init s (Work.complete
        { st :=
          { s with
            conn := Conn.fresh
            txNext := 0, txAcked := 0, txInflight := 0, txWindow := 1, retxCount := 0
            tmrRto := zext64 s.cfgRtoInit, tmrElapsed := 0, timeSinceRx := 0
            rxIsn := 0, rxAssembled := 0, rxBuffered := 0
            seglSeqno := 0, seglLen := 0 } })

/-- SEG_RX past its checks: an RST, a discarded segment, or a processed one (44_connection.md R183). -/
theorem segRx_effect (syn fin rst ack : Bool) (win : U16) {s : State} (hc : segRxCheck s = none) :
    Effect (.segRx syn fin rst ack win) s (segRxBody syn fin rst ack win s).complete := by
  obtain ⟨hp, ha⟩ := (segRxCheck_eq_none s).1 hc
  cases rst with
  | true => exact .segRxReset hp ha
  | false =>
    by_cases hseen : s.conn.rxSynSeen = true ∨ syn = true
    · rw [segRxBody_of_processed syn fin ack win hseen]
      exact .segRxProcessed hp ha hseen rfl rfl rfl
    · obtain ⟨hs, rfl⟩ : s.conn.rxSynSeen = false ∧ syn = false := by simpa using hseen
      rw [segRxBody_of_discard fin ack win hs]
      exact .segRxDiscarded hp ha hs

/-- CLOSE on a live connection and on an inactive one (44_connection.md R189). -/
theorem close_effect (s : State) : Effect .close s (closeBody s).complete := by
  cases ha : s.conn.active with
  | true => rw [closeBody_of_active ha]; exact .closeActive ha
  | false => rw [closeBody_of_inactive ha]; exact .closeInactive ha

/-- A command whose checks pass ends in one of its effects. -/
theorem body_effect (i : Instr) {s : State} (hc : checkOf i s = none) : Effect i s (bodyOf i s).complete := by
  cases i with
  | nop => exact .nop
  | wrap => exact .wrap
  | unwrap => exact .unwrap
  | seglen syn fin => exact .seglen
  | tmrStart => exact .tmrStart
  | tmrStop => exact .tmrStop
  | tmrReset => exact .tmrReset
  | tmrDouble => exact .tmrDouble
  | tmrTick => exact .tmrTick
  | tmrQuery => exact .tmrQuery
  | segRx syn fin rst ack win => exact segRx_effect syn fin rst ack win hc
  | segEnd =>
    rw [bodyOf, segEndBody_eq]
    exact .segEnd ((segEndCheck_eq_none s).1 hc) rfl
  | rxStatus ended =>
    obtain ⟨hno, hle, hbuf, hend⟩ := (rxStatusCheck_eq_none ended s).1 hc
    exact .rxStatus hno hle hbuf hend
  | txSent syn fin =>
    obtain ⟨ha, hpos, hfin, hsyn, hfit⟩ := (txSentCheck_eq_none syn fin s).1 hc
    exact .txSent rfl ha hpos hfin hsyn hfit
  | txRetire =>
    obtain ⟨ha, hn, hout⟩ := (txRetireCheck_eq_none s).1 hc
    rw [bodyOf, txRetireBody_eq]
    exact .txRetire ha hn hout
  | txEof => exact .txEof ((txEofCheck_eq_none s).1 hc)
  | tick =>
    obtain ⟨hp, ha⟩ := (tickCheck_eq_none s).1 hc
    rw [bodyOf, tickBody_flat]
    exact .tick hp ha
  | eval =>
    obtain ⟨hp, ha⟩ := (evalCheck_eq_none s).1 hc
    rw [bodyOf, evalBody_eq]
    exact .eval hp ha
  | close => exact close_effect s
  | stamp => rw [bodyOf, stampBody_eq]; exact .stamp
  | init => exact .init ((initCheck_eq_none s).1 hc)

/-- Every next state of a command is one of its effects. -/
theorem effect_of_exec {i : Instr} {s t : State} (h : exec i s = .next t) : Effect i s t := by
  obtain ⟨c, hc, rfl⟩ | ⟨hc, rfl⟩ := exec_cases h
  · exact .refused c hc
  · exact body_effect i hc

end Sys2Proof.Machine
end

section
/-! The invariants of 10_state.md R55: kept by every command, then by every step, then in every run. -/

namespace Sys2Proof.Machine

/-- An accepted acknowledgment stays within TX_ACKED and TX_NEXT; a rejected one changes nothing
(42_sender_tracking.md R140). -/
theorem acked_bounds_after_ack {s : State} {ack accepted : Bool} {ackno : U32}
    (hacc : accepted = (ack && ackAcceptable ackno s)) (hle : s.txAcked.toNat ≤ s.txNext.toNat) :
    s.txAcked.toNat ≤ (if accepted then ackAbs ackno s else s.txAcked).toNat ∧
      (if accepted then ackAbs ackno s else s.txAcked).toNat ≤ s.txNext.toNat := by
  cases accepted with
  | true =>
    obtain ⟨-, hok⟩ : ack = true ∧ ackAcceptable ackno s = true := by simpa using hacc.symm
    exact (ackAcceptable_iff ackno s).1 hok
  | false => exact ⟨Nat.le_refl _, hle⟩

/-- A sum that fits 64 bits does not wrap. -/
theorem toNat_add_of_fits {a b : U64} (hfit : a.toNat + b.toNat ≤ 2 ^ 64 - 1) :
    (a + b).toNat = a.toNat + b.toNat :=
  BitVec.toNat_add_of_lt (by omega)

theorem add_ne_zero_of_fits {a b : U64} (hpos : b.toNat ≠ 0) (hfit : a.toNat + b.toNat ≤ 2 ^ 64 - 1) :
    a + b ≠ 0 := by
  intro h0
  have hsum := toNat_add_of_fits hfit
  rw [h0] at hsum
  exact hpos (Nat.add_eq_zero_iff.1 hsum.symm).2

/-- The data of an accepted TX_SENT fits TX_INFLIGHT's register (42_sender_tracking.md R141, log 7). -/
theorem toNat_txInflight_add {s : State} {len : U64} (hi : Inv s)
    (hfit : s.txNext.toNat + len.toNat ≤ 2 ^ 64 - 1) :
    (s.txInflight + len).toNat = s.txInflight.toNat + len.toNat := by
  obtain ⟨-, hle⟩ := hi.inflightBounds
  exact toNat_add_of_fits (by omega)

/-- Every command keeps the eight invariants. -/
theorem exec_keeps_inv {i : Instr} {s t : State} (hi : Inv s) (h : exec i s = .next t) : Inv t := by
  cases effect_of_exec h with
  | refused | nop | wrap | unwrap | seglen | tmrStart | tmrStop | tmrReset | tmrDouble | tmrTick | tmrQuery
  | segRxDiscarded | closeInactive | stamp => exact { hi with }
  | segRxReset hp ha =>
    exact { hi with
      errNotActive := fun _ => rfl
      pendingActive := fun hpend => absurd hpend (by simp [hp]) }
  | segRxProcessed hp ha hseen hisn habs hacc =>
    obtain ⟨hlo, hhi⟩ := acked_bounds_after_ack hacc hi.ackedLeNext
    obtain ⟨hin, hle⟩ := hi.inflightBounds
    exact { hi with
      ackedLeNext := hhi
      inflightBounds := ⟨(Nat.sub_le_sub_left hlo _).trans hin, hle⟩
      noSynNoStream := fun hno => absurd hno (by simp)
      pendingActive := fun _ => ha }
  | segEnd hp hcl =>
    exact { hi with
      errNotActive := fun herr => by simp [hi.errNotActive herr]
      pendingActive := fun hpend => absurd hpend (by simp) }
  | rxStatus hno hle hbuf hend =>
    exact { hi with
      bufferedLeAssembled := hbuf
      noSynNoStream := fun hseen => by
        obtain ⟨h0, h1, hended⟩ := hno hseen
        obtain ⟨-, -, hrx⟩ := hi.noSynNoStream hseen
        exact ⟨h0, h1, by simp [hrx, hended]⟩ }
  | @txSent _ syn fin len hlen ha hpos hfin hsyn hfit =>
    obtain ⟨hin, hle⟩ := hi.inflightBounds
    have hacked := hi.ackedLeNext
    have hnext : (s.txNext + len).toNat = s.txNext.toNat + len.toNat := toNat_add_of_fits hfit
    have hinfl : (s.txInflight + len).toNat = s.txInflight.toNat + len.toNat := toNat_txInflight_add hi hfit
    have hsent : (s.conn.txSynSent || syn) = true := by simp [hsyn]
    exact { hi with
      ackedLeNext := by simp only [complete_txAcked, complete_txNext]; omega
      inflightBounds := by simp only [complete_txAcked, complete_txNext, complete_txInflight]; omega
      nextZeroIffNoSyn := iff_of_false (add_ne_zero_of_fits hpos hfit) (by simp [hsent])
      finNeedsEofAndSyn := fun hf => by
        obtain rfl : fin = true := by simpa [hfin] using hf
        exact ⟨Bool.or_true _, hsent⟩ }
  | txRetire ha hn hout =>
    obtain ⟨hin, hle⟩ := hi.inflightBounds
    have hinfl : (s.txInflight - s.arg0).toNat = s.txInflight.toNat - s.arg0.toNat := BitVec.toNat_sub_of_le hn
    exact { hi with
      inflightBounds := by simp only [complete_txAcked, complete_txNext, complete_txInflight]; omega }
  | txEof ha => exact { hi with finNeedsEofAndSyn := fun hf => ⟨rfl, (hi.finNeedsEofAndSyn hf).2⟩ }
  | tick hp ha =>
    exact { hi with
      errNotActive := fun herr => by
        obtain he | hpast : s.conn.err = true ∨ tickPasses s = true := by simpa using herr
        · simp [hi.errNotActive he]
        · simp [hpast]
      pendingActive := fun hpend => absurd hpend (by simp [hp]) }
  | eval hp ha =>
    exact { hi with
      errNotActive := fun herr => by simp [hi.errNotActive herr]
      pendingActive := fun hpend => absurd hpend (by simp [hp]) }
  | closeActive ha =>
    exact { hi with
      errNotActive := fun _ => rfl
      pendingActive := fun hpend => absurd hpend (by simp) }
  | init ha => constructor <;> simp [Conn.fresh]

/-- The TMR_* commands (41_timer.md R120). -/
def timerMnemonics : List Mnemonic := [.tmrStart, .tmrStop, .tmrReset, .tmrDouble, .tmrTick, .tmrQuery]

/-- Every command but TMR_* keeps: a running timer implies outstanding data. -/
theorem exec_keeps_timerInv {i : Instr} {s t : State} (hm : i.mnemonic ∉ timerMnemonics) (hi : Inv s)
    (ht : TimerInv s) (h : exec i s = .next t) : TimerInv t := by
  cases effect_of_exec h with
  | refused | nop | wrap | unwrap | seglen | segRxReset | segRxDiscarded | segRxProcessed | segEnd | rxStatus | txEof
  | eval | closeActive | closeInactive | stamp => exact ht
  | tmrStart | tmrStop | tmrReset | tmrDouble | tmrTick | tmrQuery => exact absurd (by decide) hm
  | @txSent _ _ _ len hlen ha hpos hfin hsyn hfit =>
    intro _
    have hinfl := toNat_txInflight_add hi hfit
    simp only [complete_txInflight]
    omega
  | txRetire ha hn hout =>
    intro hrun
    have hne : s.txInflight - s.arg0 ≠ 0 := fun h0 => by simp [h0] at hrun
    exact Nat.pos_of_ne_zero fun h0 => hne (BitVec.eq_of_toNat_eq h0)
  | tick hp ha => exact fun hrun => ht (Bool.and_eq_true_iff.1 hrun).1
  | init ha => intro hrun; cases hrun

/-- From `s` to `t` only the host's own registers, STATUS and the host's side of the window may differ. -/
def SameConnection (s t : State) : Prop :=
  t = { s with
    arg0 := t.arg0, arg1 := t.arg1, arg2 := t.arg2
    cfgRtoInit := t.cfgRtoInit, cfgMaxRetx := t.cfgMaxRetx, cfgCapacity := t.cfgCapacity, cfgTxIsn := t.cfgTxIsn
    status := t.status, hostQueue := t.hostQueue, readData := t.readData }

theorem SameConnection.offer (s : State) (a : HostAccess) : SameConnection s (s.offer a) := rfl

theorem SameConnection.popped (s : State) (rest : List HostAccess) : SameConnection s { s with hostQueue := rest } :=
  rfl

theorem SameConnection.regWrite (s : State) (r : Reg) (v : U64) : SameConnection s (regWrite s r v) := by
  unfold SameConnection
  rw [regWrite_frame]

theorem SameConnection.trans {s t u : State} (h : SameConnection s t) (h' : SameConnection t u) :
    SameConnection s u := by
  unfold SameConnection at *
  rw [h', h]

theorem SameConnection.inv {s t : State} (h : SameConnection s t) (hi : Inv s) : Inv t := by
  rw [h]
  exact { hi with }

theorem SameConnection.timerInv {s t : State} (h : SameConnection s t) (ht : TimerInv s) : TimerInv t := by
  rw [h]
  exact ht

/-- A step issues a command, or leaves the connection alone; accesses not yet taken only become fewer. -/
theorem step_cases {s t : State} (h : step s = .next t) :
    (SameConnection s t ∧ t.hostQueue ⊆ s.hostQueue) ∨
    ∃ v i rest, s.hostQueue = .write 0x00 8 v :: rest ∧ decode (low32 v) = .ok i ∧
      exec i { s with hostQueue := rest } = .next t := by
  cases hq : s.hostQueue with
  | nil =>
    obtain rfl : s = t := by simpa [step_of_empty hq] using h
    exact .inl ⟨rfl, by simp [hq]⟩
  | cons a rest =>
    rw [step_of_cons hq] at h
    obtain ⟨-, off, width, hr⟩ | ⟨off, -, hr⟩ | ⟨v, rfl, hr⟩ | ⟨off, v, r, -, -, -, hr⟩ | ⟨off, v, -, -, hr⟩ :=
      performAccess_cases a { s with hostQueue := rest } <;> rw [hr] at h
    · cases h
    · cases h
      exact .inl ⟨rfl, List.subset_cons_self a rest⟩
    · obtain ⟨i, hd, he⟩ | ⟨e, -, he⟩ := issueCommand_cases v { s with hostQueue := rest } <;> rw [he] at h
      · exact .inr ⟨v, i, rest, rfl, hd, h⟩
      · cases h
        exact .inl ⟨rfl, List.subset_cons_self _ rest⟩
    · cases h
      refine .inl ⟨(SameConnection.popped s rest).trans (.regWrite _ r v), ?_⟩
      rw [regWrite_frame]
      exact List.subset_cons_self a rest
    · cases h
      exact .inl ⟨rfl, List.subset_cons_self a rest⟩

theorem step_keeps_inv {s t : State} (hi : Inv s) (h : step s = .next t) : Inv t := by
  obtain ⟨hsame, -⟩ | ⟨v, i, rest, -, -, he⟩ := step_cases h
  · exact hsame.inv hi
  · exact exec_keeps_inv ((SameConnection.popped s rest).inv hi) he

/-- Settles O46: a command keeps the invariants by its effects, and every other access leaves the connection alone. -/
theorem everyStepKeepsInvariants : Obligations.EveryStepKeepsInvariants :=
  fun _ _ hi h => step_keeps_inv hi h

/-- Settles O48: TX_SENT adds data as it starts the timer, and TX_RETIRE stops it when nothing is left. -/
theorem nonTimerCommandsKeepTimerInvariant : Obligations.NonTimerCommandsKeepTimerInvariant :=
  fun _ _ _ hm hi ht h => exec_keeps_timerInv hm hi ht h

theorem reset_inv : Inv State.reset := by
  constructor <;> simp [State.reset, State.resetWith, Conn.fresh]

theorem reset_timerInv : TimerInv State.reset := nofun

/-- Settles O45: nothing is sent, received or pending after reset, and the timer is stopped. -/
theorem resetMeetsInvariants : Obligations.ResetMeetsInvariants :=
  ⟨reset_inv, reset_timerInv, fun _ => rfl⟩

theorem reachableBy_inv {may : HostAccess → Prop} {s : State} (h : ReachableBy may s) : Inv s := by
  induction h with
  | reset => exact reset_inv
  | offer a _ _ ih => exact (SameConnection.offer _ a).inv ih
  | step _ hs ih => exact step_keeps_inv ih hs

/-- A command leaves the accesses still to come. -/
theorem exec_hostQueue {i : Instr} {s t : State} (h : exec i s = .next t) : t.hostQueue = s.hostQueue := by
  cases effect_of_exec h <;> rfl

theorem step_hostQueue_subset {s t : State} (h : step s = .next t) : t.hostQueue ⊆ s.hostQueue := by
  obtain ⟨-, hsub⟩ | ⟨v, i, rest, hq, -, he⟩ := step_cases h
  · exact hsub
  · rw [exec_hostQueue he, hq]
    exact List.subset_cons_self _ rest

/-- A run in which the host makes only some kind of access has only such accesses waiting. -/
theorem reachableBy_queued {may : HostAccess → Prop} {s : State} (h : ReachableBy may s) :
    ∀ a ∈ s.hostQueue, may a := by
  induction h with
  | reset => exact nofun
  | offer a ha _ ih =>
    intro b hb
    obtain hb | rfl : b ∈ _ ∨ b = a := by simpa using hb
    · exact ih b hb
    · exact ha
  | step _ hs ih => exact fun b hb => ih b (step_hostQueue_subset hs hb)

/-- The command of a CMD write that is no TMR_* access is no TMR_* command. -/
theorem mnemonic_of_not_usesTimerCommand {v : U64} {i : Instr} (hd : decode (low32 v) = .ok i)
    (h : usesTimerCommand (.write 0x00 8 v) = false) : i.mnemonic ∉ timerMnemonics := by
  simpa [usesTimerCommand, hd, timerMnemonics] using h

/-- Without a TMR_* access waiting, a step keeps the timer invariant. -/
theorem step_keeps_timerInv {s t : State} (hi : Inv s) (ht : TimerInv s)
    (hq : ∀ a ∈ s.hostQueue, usesTimerCommand a = false) (h : step s = .next t) : TimerInv t := by
  obtain ⟨hsame, -⟩ | ⟨v, i, rest, hv, hd, he⟩ := step_cases h
  · exact hsame.timerInv ht
  · have hpop := SameConnection.popped s rest
    have hm := mnemonic_of_not_usesTimerCommand hd (hq _ (by simp [hv]))
    exact exec_keeps_timerInv hm (hpop.inv hi) (hpop.timerInv ht) he

theorem reachableBy_timerInv {s : State} (h : ReachableBy (fun a => usesTimerCommand a = false) s) : TimerInv s := by
  induction h with
  | reset => exact reset_timerInv
  | offer a _ _ ih => exact (SameConnection.offer _ a).timerInv ih
  | step hr hs ih => exact step_keeps_timerInv (reachableBy_inv hr) ih (reachableBy_queued hr) hs

/-- TMR_START as the first command after reset: the timer runs with nothing outstanding. -/
theorem tmrStart_after_reset :
    step (State.reset.offer (cmdWrite 0x10)) = .next (tmrStartBody State.reset).complete := rfl

/-- Settles O49: by induction on the run; TMR_START right after reset breaks the timer invariant. -/
theorem reachableStatesKeepInvariants : Obligations.ReachableStatesKeepInvariants := by
  refine ⟨fun s => reachableBy_inv, fun s => reachableBy_timerInv, _,
    .step (.offer _ trivial .reset) tmrStart_after_reset, fun ht => ?_⟩
  exact absurd (ht rfl) (by decide)

end Sys2Proof.Machine
end

section
/-! What each command writes: the registers (10_state.md R24, R25, R36-R51), the flags (R52), and how TMR_RTO and
TMR_ELAPSED move (R45, R46). -/

namespace Sys2Proof.Machine

/-- Settles O40: by the effects; the first group writes no register but CONN and STATUS. -/
theorem registerWriters : Obligations.RegisterWriters := by
  intro i s t h
  cases effect_of_exec h with
  | refused | nop | tmrStop | segEnd | txEof | eval | closeActive | closeInactive => simp
  | wrap | unwrap | seglen | tmrStart | tmrReset | tmrDouble | tmrTick | tmrQuery | segRxReset | segRxDiscarded
  | segRxProcessed | rxStatus | txSent | txRetire | tick | stamp | init => simp [Instr.mnemonic]

/-- Settles O39: by the effects; the first group leaves CONN as it is. -/
theorem flagWriters : Obligations.FlagWriters := by
  intro i s t h
  cases effect_of_exec h with
  | refused | nop | wrap | unwrap | seglen | tmrReset | tmrDouble | tmrTick | tmrQuery | segRxDiscarded
  | closeInactive => simp +contextual
  | tmrStart | tmrStop | segRxReset | segRxProcessed | closeActive | stamp => simp [Instr.mnemonic]
  | segEnd => simp +contextual [Instr.mnemonic, lingerAfter]
  | rxStatus | txSent | txRetire | txEof | tick | eval => simp +contextual [Instr.mnemonic]
  | init => simp [Instr.mnemonic, Conn.fresh]

/-- Time passes for TMR_ELAPSED only while the timer runs (41_timer.md R125). -/
theorem elapsedAfter_cases (s : State) :
    elapsedAfter s = s.tmrElapsed ∨
      (s.conn.tmrRunning = true ∧
        (elapsedAfter s).toNat = min (s.tmrElapsed.toNat + s.arg0.toNat) (2 ^ 64 - 1)) := by
  unfold elapsedAfter
  split
  next hrun => exact .inr ⟨hrun, toNat_satAdd64 _ _⟩
  next => exact .inl rfl

/-- Settles O23: by the effects; the first group writes neither register. -/
theorem rtoGrowsAndElapsedRuns : Obligations.RtoGrowsAndElapsedRuns := by
  intro i s t h
  cases effect_of_exec h with
  | refused | nop | wrap | unwrap | seglen | tmrStop | tmrQuery | segRxReset | segRxDiscarded | segRxProcessed
  | segEnd | rxStatus | txEof | eval | closeActive | closeInactive | stamp => exact ⟨.inl rfl, .inl rfl⟩
  | tmrStart => exact ⟨.inl rfl, .inr (.inl ⟨rfl, by decide⟩)⟩
  | tmrReset => exact ⟨.inr (.inr ⟨rfl, by decide⟩), .inl rfl⟩
  | tmrDouble => exact ⟨.inr (.inl ⟨toNat_satDbl64 _, by decide⟩), .inl rfl⟩
  | tmrTick =>
    exact ⟨.inl rfl, (elapsedAfter_cases s).imp_right fun ⟨hrun, hsum⟩ => .inr ⟨hrun, hsum, by decide⟩⟩
  | txSent =>
    refine ⟨.inl rfl, ?_⟩
    cases s.conn.tmrRunning with
    | true => exact .inl rfl
    | false => exact .inr (.inl ⟨rfl, by simp [Instr.mnemonic]⟩)
  | txRetire =>
    by_cases hn : s.arg0 = 0
    · exact ⟨.inl (if_pos hn), .inl (if_pos hn)⟩
    · exact ⟨.inr (.inr ⟨if_neg hn, by decide⟩), .inr (.inl ⟨if_neg hn, by decide⟩)⟩
  | tick =>
    constructor
    · cases tickCounts s with
      | true => exact .inr (.inl ⟨toNat_satDbl64 _, by decide⟩)
      | false => exact .inl rfl
    · cases tickResends s with
      | true => exact .inr (.inl ⟨rfl, by decide⟩)
      | false =>
        exact (elapsedAfter_cases s).imp_right fun ⟨hrun, hsum⟩ => .inr ⟨hrun, hsum, by decide⟩
  | init => exact ⟨.inr (.inr ⟨rfl, by decide⟩), .inr (.inl ⟨rfl, by decide⟩)⟩

/-! STATUS and CONN as words (10_state.md R26, R27). -/

@[simp] theorem statusWord_reset : statusWord State.reset = 0 := rfl

@[simp] theorem connWord_reset : connWord State.reset = 3 := rfl

/-- No command's checks look at STATUS. -/
theorem checkOf_withStatus (i : Instr) (s : State) (v : Status) : checkOf i (s.withStatus v) = checkOf i s := by
  cases i <;> rfl

/-- SEG_RX's writes do not look at STATUS. -/
theorem segRxBody_withStatus (syn fin rst ack : Bool) (win : U16) (s : State) (v : Status) :
    (segRxBody syn fin rst ack win (s.withStatus v)).complete = (segRxBody syn fin rst ack win s).complete := by
  cases rst with
  | true => rfl
  | false =>
    by_cases hseen : s.conn.rxSynSeen = true ∨ syn = true
    · rw [segRxBody_of_processed syn fin ack win hseen,
        segRxBody_of_processed syn fin ack win (s := s.withStatus v) hseen]
      rfl
    · obtain ⟨hs, rfl⟩ : s.conn.rxSynSeen = false ∧ syn = false := by simpa using hseen
      rw [segRxBody_of_discard fin ack win hs, segRxBody_of_discard fin ack win (s := s.withStatus v) hs]
      rfl

/-- No command's writes look at STATUS, and completing the command overwrites it. -/
theorem bodyOf_withStatus (i : Instr) (s : State) (v : Status) :
    (bodyOf i (s.withStatus v)).complete = (bodyOf i s).complete := by
  cases i with
  | segRx syn fin rst ack win => exact segRxBody_withStatus syn fin rst ack win s v
  | close =>
    cases ha : s.conn.active with
    | true =>
      rw [bodyOf, closeBody_of_active ha, closeBody_of_active (s := s.withStatus v) ha]
      rfl
    | false =>
      rw [bodyOf, closeBody_of_inactive ha, closeBody_of_inactive (s := s.withStatus v) ha]
      rfl
  | segEnd => simp only [bodyOf, segEndBody_eq]; rfl
  | txRetire => simp only [bodyOf, txRetireBody_eq]; rfl
  | tick => simp only [bodyOf, tickBody_flat]; rfl
  | eval => simp only [bodyOf, evalBody_eq]; rfl
  | stamp => simp only [bodyOf, stampBody_eq]; rfl
  | nop | wrap | unwrap | seglen | tmrStart | tmrStop | tmrReset | tmrDouble | tmrTick | tmrQuery | rxStatus | txSent
  | txEof | init => rfl

/-- Every command rewrites all of STATUS, and nothing it does depends on the old value (60_exceptions.md R222). -/
theorem exec_withStatus (i : Instr) (s : State) (v : Status) : exec i (s.withStatus v) = exec i s := by
  rw [exec_form, exec_form, runCommand, runCommand, checkOf_withStatus, bodyOf_withStatus]
  rfl

/-- A field of a word, read off bit by bit. -/
theorem extractLsb'_eq_of_getLsbD {w lo n : Nat} {x : BitVec w} {y : BitVec n}
    (h : ∀ k < n, x.getLsbD (lo + k) = y.getLsbD k) : x.extractLsb' lo n = y := by
  apply BitVec.eq_of_getLsbD_eq
  intro k hk
  simp [hk, h k hk]

theorem statusWord_code (s : State) : (statusWord s).extractLsb' 0 8 = s.status.code.value :=
  extractLsb'_eq_of_getLsbD fun k hk => by rw [statusWord_getLsbD, if_pos (by omega), Nat.zero_add]

theorem statusWord_state (s : State) : (statusWord s).extractLsb' 24 3 = (stateTag s).value :=
  extractLsb'_eq_of_getLsbD fun k hk => by
    rw [statusWord_getLsbD, if_neg (by omega), if_neg (by omega), if_neg (by omega), if_pos (by omega),
      Nat.add_sub_cancel_left]

theorem statusWord_reserved_low (s : State) : (statusWord s).extractLsb' 22 2 = 0 :=
  extractLsb'_eq_of_getLsbD fun k hk => by
    rw [statusWord_getLsbD, if_neg (by omega), if_neg (by omega), if_pos (by omega), BitVec.ofNat_eq_ofNat,
      BitVec.getLsbD_zero]

theorem statusWord_reserved_high (s : State) : (statusWord s).extractLsb' 27 37 = 0 :=
  extractLsb'_eq_of_getLsbD fun k hk => by
    rw [statusWord_getLsbD, if_neg (by omega), if_neg (by omega), if_neg (by omega), if_neg (by omega),
      BitVec.ofNat_eq_ofNat, BitVec.getLsbD_zero]

theorem connWord_state (s : State) : (connWord s).extractLsb' 12 3 = (stateTag s).value :=
  extractLsb'_eq_of_getLsbD fun k hk => by
    rw [connWord_getLsbD, if_neg (by omega), if_neg (by omega), if_pos (by omega), Nat.add_sub_cancel_left]

theorem connWord_reserved_high (s : State) : (connWord s).extractLsb' 15 49 = 0 :=
  extractLsb'_eq_of_getLsbD fun k hk => by
    rw [connWord_getLsbD, if_neg (by omega), if_neg (by omega), if_neg (by omega), BitVec.ofNat_eq_ofNat,
      BitVec.getLsbD_zero]

/-- Settles O14: the fields by `statusWord_getLsbD`, the rewriting of all of STATUS by `exec_withStatus`. -/
theorem statusWordLayout : Obligations.StatusWordLayout := by
  refine ⟨statusWord_reset, fun _ _ => rfl, exec_withStatus, fun s => ?_⟩
  simp [-BitVec.getLsbD_eq_getElem, statusWord_getLsbD, Reqs.bits_getLsbD, statusWord_code, statusWord_state,
    statusWord_reserved_low, statusWord_reserved_high]

/-- Settles O15: the fields by `connWord_getLsbD`. -/
theorem connWordLayout : Obligations.ConnWordLayout := by
  refine ⟨connWord_reset, fun _ _ => rfl, fun s => ?_⟩
  simp [-BitVec.getLsbD_eq_getElem, connWord_getLsbD, Conn.bits_getLsbD, connWord_state, connWord_reserved_high]

theorem stateTag_reset : stateTag State.reset = .listen := rfl

/-- Settles O16: STATUS, CONN and STATE by their own lemmas; every other value stands in `State.resetWith`. -/
theorem powerOnResetValues : Obligations.PowerOnResetValues := by
  simp only [Obligations.PowerOnResetValues, regRead, statusWord_reset, connWord_reset, stateTag_reset]
  simp [State.reset, State.resetWith, Config.params]

end Sys2Proof.Machine
end

section
/-! The host's side of the register window (20_memory.md R60-R70): the slots and their bytes, what each
answered access does, and the addresses accesses are made at. -/

namespace Sys2Proof.Machine

/-! The slots of the window (R61, R62, R65). -/

/-- A slot is reserved when no register of the map has its offset. -/
theorem regAt_eq_none_iff (off : BitVec 8) : regAt off = none ↔ ∀ r ∈ allRegs, off ≠ regOffset r := by
  simp [regAt, eq_comm (a := off)]

theorem regOffset_aligned (r : Reg) : (regOffset r).toNat % 8 = 0 := by cases r <;> rfl

/-- Clearing the low three bits of an offset gives the offset of its slot. -/
theorem toNat_and_slotMask (a : BitVec 8) : (a &&& 0xF8).toNat = a.toNat / 8 * 8 := by
  have hbits : a &&& (0xF8 : BitVec 8) = a >>> 3 <<< 3 := by
    apply BitVec.eq_of_getLsbD_eq
    intro k hk
    interval_cases k <;> simp
  have ha := a.isLt
  rw [hbits, BitVec.toNat_shiftLeft, BitVec.toNat_ushiftRight, Nat.shiftLeft_eq, Nat.shiftRight_eq_div_pow]
  omega

/-- Eight bits of a word, as a number. -/
theorem extractLsb'_byte (x : U64) (k : Nat) : x.extractLsb' k 8 = BitVec.ofNat 8 (x.toNat / 2 ^ k) := by
  rw [BitVec.extractLsb', Nat.shiftRight_eq_div_pow]

/-! Reading a slot depends on the registers only, and on no slot but its own (R66). -/

theorem regRead_withHost (s : State) (q : List HostAccess) (d : U64) (r : Reg) :
    regRead { s with hostQueue := q, readData := d } r = regRead s r := by
  cases r <;> rfl

theorem windowRead_withHost (s : State) (q : List HostAccess) (d : U64) (off : BitVec 8) :
    windowRead { s with hostQueue := q, readData := d } off = windowRead s off := by
  unfold windowRead
  cases regAt off with
  | none => rfl
  | some r => exact regRead_withHost s q d r

theorem windowByte_withHost (s : State) (q : List HostAccess) (d : U64) (a : BitVec 8) :
    windowByte { s with hostQueue := q, readData := d } a = windowByte s a := by
  rw [windowByte, windowByte, windowRead_withHost]

/-- CFG_TX_ISN stores a write only before the SYN is sent (10_state.md R39). -/
theorem regWrite_cfgTxIsn (s : State) (v : U64) :
    regWrite s .cfgTxIsn v = { s with cfgTxIsn := if s.conn.txSynSent then s.cfgTxIsn else low32 v } := by
  cases h : s.conn.txSynSent <;> simp [regWrite, h]

theorem regRead_regWrite_of_ne (s : State) (v : U64) {r q : Reg} (h : q ≠ r) :
    regRead (regWrite s r v) q = regRead s q := by
  cases r with
  | arg0 | arg1 | arg2 | cfgRtoInit | cfgMaxRetx | cfgCapacity => cases q <;> trivial
  | cfgTxIsn => rw [regWrite_cfgTxIsn]; cases q <;> trivial
  | _ => rfl

theorem windowRead_regWrite_of_ne (s : State) (v : U64) {r : Reg} {off : BitVec 8} (h : off ≠ regOffset r) :
    windowRead (regWrite s r v) off = windowRead s off := by
  unfold windowRead
  cases hq : regAt off with
  | none => rfl
  | some q =>
    have hne : q ≠ r := fun he => h (he ▸ (regOffset_of_regAt hq).symm)
    exact regRead_regWrite_of_ne s v hne

/-- A byte outside the eight at a register's offset lies in another slot. -/
theorem windowByte_regWrite_of_outside (s : State) (v : U64) {r : Reg} {a : BitVec 8}
    (h : a.toNat < (regOffset r).toNat ∨ (regOffset r).toNat + 8 ≤ a.toNat) :
    windowByte (regWrite s r v) a = windowByte s a := by
  have hslot : a &&& 0xF8 ≠ regOffset r := by
    intro he
    have hnat := toNat_and_slotMask a
    rw [he] at hnat
    omega
  rw [windowByte, windowByte, windowRead_regWrite_of_ne s v hslot]

theorem regWrite_withQueue (s : State) (q : List HostAccess) (r : Reg) (v : U64) :
    regWrite { s with hostQueue := q } r v = { regWrite s r v with hostQueue := q } := by
  cases r with
  | cfgTxIsn => simp only [regWrite_cfgTxIsn]
  | _ => rfl

theorem regWrite_idem (s : State) (r : Reg) (v : U64) : regWrite (regWrite s r v) r v = regWrite s r v := by
  cases r with
  | cfgTxIsn => cases h : s.conn.txSynSent <;> simp [regWrite_cfgTxIsn, h]
  | _ => rfl

/-! One access (R63, R64, R66, R67). -/

theorem hostWrite_regOffset {r : Reg} (hr : r ≠ .cmd) (v : U64) (s : State) :
    hostWrite (regOffset r) v s = .next (regWrite s r v) := by
  simp only [hostWrite, regAt_regOffset]

theorem hostWrite_of_reserved {off : BitVec 8} (hn : regAt off = none) (v : U64) (s : State) :
    hostWrite off v s = .next s := by
  simp only [hostWrite, hn]

theorem issueCommand_of_ok {v : U64} {i : Instr} (hd : decode (low32 v) = .ok i) (s : State) :
    issueCommand v s = exec i s := by
  simp only [issueCommand, hd]

theorem issueCommand_of_error {v : U64} {e : DecodeError} (hd : decode (low32 v) = .error e) (s : State) :
    issueCommand v s = .next { s with status := { code := .eopc, req := {} } } := by
  simp only [issueCommand, hd]
  rfl

theorem read_wellFormed_iff (off : BitVec 8) (width : Nat) :
    (HostAccess.read off width).wellFormed = true ↔ width = 8 ∧ off.toNat % 8 = 0 := by
  simp [HostAccess.wellFormed]

theorem write_wellFormed_iff (off : BitVec 8) (width : Nat) (v : U64) :
    (HostAccess.write off width v).wellFormed = true ↔ width = 8 ∧ off.toNat % 8 = 0 := by
  simp [HostAccess.wellFormed]

theorem performAccess_read_of_undefined {off : BitVec 8} {width : Nat} (h : width ≠ 8 ∨ off.toNat % 8 ≠ 0)
    (s : State) : performAccess (.read off width) s = .refused (.badAccess off width) := by
  rw [performAccess, if_neg]
  rw [read_wellFormed_iff]
  omega

theorem performAccess_write_of_undefined {off : BitVec 8} {width : Nat} (h : width ≠ 8 ∨ off.toNat % 8 ≠ 0)
    (v : U64) (s : State) : performAccess (.write off width v) s = .refused (.badAccess off width) := by
  rw [performAccess, if_neg]
  rw [write_wellFormed_iff]
  omega

theorem performAccess_read_of_aligned {off : BitVec 8} (h : off.toNat % 8 = 0) (s : State) :
    performAccess (.read off 8) s = .next { s with readData := windowRead s off } := by
  rw [performAccess, if_pos ((read_wellFormed_iff off 8).2 ⟨rfl, h⟩), hostRead]

theorem performAccess_write_of_aligned {off : BitVec 8} (h : off.toNat % 8 = 0) (v : U64) (s : State) :
    performAccess (.write off 8 v) s = hostWrite off v s := by
  rw [performAccess, if_pos ((write_wellFormed_iff off 8 v).2 ⟨rfl, h⟩)]

/-- `Answered a s t`: one way for access `a` in state `s` to end in state `t`. -/
inductive Answered : HostAccess → State → State → Prop where
  | read {off s} (halign : off.toNat % 8 = 0) : Answered (.read off 8) s { s with readData := windowRead s off }
  | command {v i s t} (hd : decode (low32 v) = .ok i) (he : exec i s = .next t) : Answered (.write 0x00 8 v) s t
  | illegal {v e s} (hd : decode (low32 v) = .error e) :
      Answered (.write 0x00 8 v) s { s with status := { code := .eopc, req := {} } }
  | register {r v s} (hr : r ≠ .cmd) : Answered (.write (regOffset r) 8 v) s (regWrite s r v)
  | reserved {off v s} (halign : off.toNat % 8 = 0) (hn : regAt off = none) : Answered (.write off 8 v) s s

/-- Every defined access is answered. -/
theorem answered_of_wellFormed {a : HostAccess} (h : a.wellFormed = true) (s : State) : ∃ t, Answered a s t := by
  cases a with
  | read off width =>
    obtain ⟨rfl, halign⟩ := (read_wellFormed_iff off width).1 h
    exact ⟨_, .read halign⟩
  | write off width v =>
    obtain ⟨rfl, halign⟩ := (write_wellFormed_iff off width v).1 h
    cases hreg : regAt off with
    | none => exact ⟨_, .reserved halign hreg⟩
    | some r =>
      obtain rfl := regOffset_of_regAt hreg
      by_cases hr : r = .cmd
      · subst hr
        cases hd : decode (low32 v) with
        | ok i => exact ⟨_, .command hd (exec_form i s)⟩
        | error e => exact ⟨_, .illegal hd⟩
      · exact ⟨_, .register hr⟩

/-- The machine answers an access as `Answered` says. -/
theorem performAccess_of_answered {a : HostAccess} {s t : State} (h : Answered a s t) :
    performAccess a s = .next t := by
  cases h with
  | read halign => exact performAccess_read_of_aligned halign s
  | command hd he => rw [performAccess_cmd, issueCommand_of_ok hd, he]
  | illegal hd => rw [performAccess_cmd, issueCommand_of_error hd]
  | @register r _ _ hr => rw [performAccess_write_of_aligned (regOffset_aligned r), hostWrite_regOffset hr]
  | reserved halign hn => rw [performAccess_write_of_aligned halign, hostWrite_of_reserved hn]

theorem wellFormed_of_performAccess {a : HostAccess} {s t : State} (h : performAccess a s = .next t) :
    a.wellFormed = true := by
  by_contra hw
  cases a <;> simp [performAccess, hw] at h

theorem performAccess_eq_next_iff (a : HostAccess) (s t : State) :
    performAccess a s = .next t ↔ Answered a s t := by
  refine ⟨fun h => ?_, performAccess_of_answered⟩
  obtain ⟨u, hu⟩ := answered_of_wellFormed (wellFormed_of_performAccess h) s
  obtain rfl : u = t := by simpa [performAccess_of_answered hu] using h
  exact hu

theorem step_eq_next_iff {s : State} {a : HostAccess} {rest : List HostAccess} (hq : s.hostQueue = a :: rest)
    (t : State) : step s = .next t ↔ Answered a { s with hostQueue := rest } t := by
  rw [step_of_cons hq, performAccess_eq_next_iff]

/-- An access neither sees nor changes the accesses still to come (R69). -/
theorem Answered.withQueue {a : HostAccess} {s t : State} (h : Answered a s t) (q : List HostAccess) :
    Answered a { s with hostQueue := q } { t with hostQueue := q } := by
  cases h with
  | @read off _ halign =>
    rw [← windowRead_withHost s q s.readData off]
    exact .read halign
  | @command v i _ _ hd he =>
    obtain rfl : runCommand (checkOf i) (bodyOf i) s = t := by simpa [exec_form] using he
    exact .command hd (exec_withQueue i s q)
  | illegal hd => exact .illegal hd
  | @register r v _ hr =>
    rw [← regWrite_withQueue]
    exact .register hr
  | reserved halign hn => exact .reserved halign hn

theorem Answered.hostQueue_eq {a : HostAccess} {s t : State} (h : Answered a s t) : t.hostQueue = s.hostQueue := by
  have hkept := (performAccess_of_answered h).symm.trans (performAccess_of_answered (h.withQueue s.hostQueue))
  have ht : t = { t with hostQueue := s.hostQueue } := by injection hkept
  rw [ht]

/-- An access other than a CMD write, made again where it led, changes nothing more (R66). -/
theorem Answered.again {a : HostAccess} {s t : State} (h : Answered a s t) (hcmd : ∀ v, a ≠ .write 0x00 8 v) :
    Answered a t t := by
  cases h with
  | @read off _ halign =>
    have hagain := Answered.read (s := { s with readData := windowRead s off }) halign
    rwa [windowRead_withHost s s.hostQueue (windowRead s off) off] at hagain
  | command hd he => exact absurd rfl (hcmd _)
  | illegal hd => exact absurd rfl (hcmd _)
  | @register r v _ hr =>
    have hagain := Answered.register (v := v) (s := regWrite s r v) hr
    rwa [regWrite_idem] at hagain
  | reserved halign hn => exact .reserved halign hn

/-! The values read and stored, slot by slot (R62). -/

/-- What a read of an offset returns (R62, R66, R67). -/
theorem windowRead_eq (s : State) (off : BitVec 8) :
    windowRead s off =
      if off = 0x08 then s.arg0 else if off = 0x10 then s.arg1 else if off = 0x18 then s.arg2
      else if off = 0x20 then s.res0 else if off = 0x28 then s.res1 else if off = 0x30 then s.res2
      else if off = 0x38 then statusWord s else if off = 0x40 then connWord s
      else if off = 0x48 then s.cfgRtoInit.setWidth 64 else if off = 0x50 then s.cfgMaxRetx.setWidth 64
      else if off = 0x58 then s.cfgCapacity else if off = 0x60 then s.cfgTxIsn.setWidth 64
      else if off = 0x68 then s.txNext else if off = 0x70 then s.txAcked
      else if off = 0x78 then s.txInflight else if off = 0x80 then s.txWindow.setWidth 64
      else if off = 0x88 then s.retxCount.setWidth 64 else if off = 0x90 then s.tmrRto
      else if off = 0x98 then s.tmrElapsed else if off = 0xA0 then s.timeSinceRx
      else if off = 0xA8 then s.rxIsn.setWidth 64 else if off = 0xB0 then s.rxAssembled
      else if off = 0xB8 then s.rxBuffered else if off = 0xC0 then s.seglSeqno.setWidth 64
      else if off = 0xC8 then s.seglLen else 0 := by
  cases hreg : regAt off with
  | some r =>
    obtain rfl := regOffset_of_regAt hreg
    rw [windowRead_regOffset]
    cases r <;> rfl
  | none =>
    rw [windowRead, hreg]
    simp only [regAt_eq_none_iff, allRegs, List.forall_mem_cons, regOffset] at hreg
    simp only [hreg, if_false]

/-- What a write of an offset other than CMD's stores (R62, R66, R67). -/
theorem answered_write_eq {s t : State} {off : BitVec 8} {v : U64} (h : Answered (.write off 8 v) s t)
    (hoff : off ≠ 0x00) :
    t = if off = 0x08 then { s with arg0 := v }
      else if off = 0x10 then { s with arg1 := v }
      else if off = 0x18 then { s with arg2 := v }
      else if off = 0x48 then { s with cfgRtoInit := v.setWidth 32 }
      else if off = 0x50 then { s with cfgMaxRetx := v.setWidth 32 }
      else if off = 0x58 then { s with cfgCapacity := v }
      else if off = 0x60 then { s with cfgTxIsn := if s.conn.txSynSent then s.cfgTxIsn else v.setWidth 32 }
      else s := by
  rw [← low32_eq_setWidth]
  cases h with
  | command | illegal => exact absurd rfl hoff
  | @register r _ _ hr =>
    cases r with
    | cfgTxIsn => rw [regWrite_cfgTxIsn]; rfl
    | _ => rfl
  | reserved halign hn =>
    simp only [regAt_eq_none_iff, allRegs, List.forall_mem_cons, regOffset] at hn
    simp only [hn, if_false]

/-! The host's addresses (R60, R61). -/

theorem base_mod : Config.base % 256 = 0 := Nat.mul_mod_right 256 Config.basePage

theorem windowOffset_base_add (off : BitVec 8) : windowOffset (Config.base + off.toNat) = some off := by
  have hoff := off.isLt
  have hbase := base_mod
  rw [windowOffset, if_pos (by omega), Option.some_inj]
  apply BitVec.eq_of_toNat_eq
  rw [BitVec.toNat_ofNat]
  omega

theorem windowOffset_of_outside {addr : Nat} (h : addr < Config.base ∨ Config.base + 256 ≤ addr) :
    windowOffset addr = none := by
  rw [windowOffset, if_neg (by omega)]

end Sys2Proof.Machine
end

section
/-! The statements about the register window, each from the rules above. -/

namespace Sys2Proof.Machine

/-- Settles O8: the refusals by the two rules for an undefined access; a defined one is answered. -/
theorem onlyUndefinedAccessesRefused : Obligations.OnlyUndefinedAccessesRefused := by
  refine ⟨fun s off width rest hq h => ?_, fun s off width v rest hq h => ?_, fun s hall => ?_⟩
  · rw [step_of_cons hq, performAccess_read_of_undefined h]
  · rw [step_of_cons hq, performAccess_write_of_undefined h]
  · cases hq : s.hostQueue with
    | nil => exact ⟨s, step_of_empty hq⟩
    | cons a rest =>
      obtain ⟨t, ht⟩ := answered_of_wellFormed (hall a (by simp [hq])) { s with hostQueue := rest }
      exact ⟨t, (step_eq_next_iff hq t).2 ht⟩

/-- Settles O9: each clause by the rule for its access, the slots by `windowRead_eq` and `answered_write_eq`. -/
theorem registerWindowAccesses : Obligations.RegisterWindowAccesses := by
  refine ⟨fun s off rest hq halign => ?_, fun s off v rest hq halign hoff => ?_, fun s v rest hq => ?_,
    fun s t a rest hq hcmd ht => ?_⟩
  · rw [step_of_cons hq, performAccess_read_of_aligned halign, windowRead_eq]
    rfl
  · obtain ⟨t, ht⟩ := answered_of_wellFormed ((write_wellFormed_iff off 8 v).2 ⟨rfl, halign⟩)
      { s with hostQueue := rest }
    rw [(step_eq_next_iff hq t).2 ht, answered_write_eq ht hoff]
  · rw [step_of_cons hq, performAccess_cmd, ← low32_eq_setWidth]
    obtain ⟨i, hd, he⟩ | ⟨e, hd, he⟩ := issueCommand_cases v { s with hostQueue := rest } <;> rw [he, hd]
  · have hans := (step_eq_next_iff hq t).1 ht
    have hrest : t.hostQueue = rest := hans.hostQueue_eq
    rw [step_eq_next_iff rfl, ← hrest]
    exact hans.again hcmd

/-- Settles O10: `off + i` does not wrap, so its slot is `off` and its place in the slot `i`. -/
theorem windowIsLittleEndian : Obligations.WindowIsLittleEndian := by
  intro s off i halign hi
  have hoff := off.isLt
  have hsum : (off + BitVec.ofNat 8 i).toNat = off.toNat + i := by
    rw [BitVec.toNat_add, BitVec.toNat_ofNat]
    omega
  have hslot : (off + BitVec.ofNat 8 i) &&& 0xF8 = off := by
    apply BitVec.eq_of_toNat_eq
    rw [toNat_and_slotMask, hsum]
    omega
  have hplace : (off + BitVec.ofNat 8 i).toNat % 8 = i := by omega
  rw [windowByte, hslot, hplace, extractLsb'_byte]

/-- Settles O11: the access taken does not see the queue behind it. -/
theorem laterAccessWaitsItsTurn : Obligations.LaterAccessWaitsItsTurn := by
  intro s t b hne ht
  obtain ⟨a, rest, hq⟩ := List.exists_cons_of_ne_nil hne
  have hans := (step_eq_next_iff hq t).1 ht
  have hrest : t.hostQueue = rest := hans.hostQueue_eq
  have hoffered : (s.offer b).hostQueue = a :: (rest ++ [b]) := by rw [offer_hostQueue, hq, List.cons_append]
  rw [step_eq_next_iff hoffered, State.offer, State.offer, hrest]
  exact hans.withQueue (rest ++ [b])

/-- Settles O12: the write is of one register or of a reserved slot. -/
theorem slotWriteLeavesOtherBytes : Obligations.SlotWriteLeavesOtherBytes := by
  intro s t off v rest hq hoff ht a ha
  rw [← windowByte_withHost s rest s.readData a]
  cases (step_eq_next_iff hq t).1 ht with
  | command | illegal => exact absurd rfl hoff
  | register hr => exact windowByte_regWrite_of_outside _ v ha
  | reserved halign hn => rfl

/-- Settles O6: the access taken issues a command, and the decoder's answer says which. -/
theorem commandWriteRunsDecodedCommand : Obligations.CommandWriteRunsDecodedCommand := by
  intro s v rest i hq hd
  rw [step_of_cons hq, performAccess_cmd, issueCommand_of_ok hd]

/-- Settles O13: `windowOffset` recovers the offset of an address in the window, and answers none elsewhere. -/
theorem windowSitsAtBase : Obligations.WindowSitsAtBase := by
  refine ⟨base_mod, fun s off width v => ?_, fun s addr width v h => ?_⟩
  · simp only [memRead, memWrite, windowOffset_base_add, State.offer, and_self]
  · simp only [memRead, memWrite, windowOffset_of_outside h, and_self]

end Sys2Proof.Machine
end

section
/-! The opcode map and the command words (30_encoding.md R80-R88): what a row selects, which word a command has, and
that the two determine each other. -/

namespace Sys2Proof

open Machine

/-! What a row selects, by the fields of the word (R80, R84). -/

theorem and_opMask (w : U32) : w &&& 0xFF = opOnly (opField w) := by
  rw [opField, ← BitVec.setWidth_eq_extractLsb' (by decide)]
  exact BitVec.and_setWidth_allOnes 24 8 w

theorem opField_opOnly (op : BitVec 8) : opField (opOnly op) = op := BitVec.extractLsb'_append_eq_right

theorem op_injective {m m' : Mnemonic} (h : m.op = m'.op) : m = m' := by
  have hrow := rowOfOp_op m
  rw [h, rowOfOp_op] at hrow
  exact (Option.some.inj hrow).symm

/-- A row's match is its OP value, every other bit zero. -/
theorem row_pattern (m : Mnemonic) : m.row.pattern = opOnly m.op := by cases m <;> rfl

/-- A row's mask is OP and the bits the row requires to be zero. -/
theorem row_mask (m : Mnemonic) : m.row.mask = 0xFF ||| m.unusedBits := by cases m <;> rfl

/-- A row's mask is what the row does not leave free. -/
theorem row_mask_eq_not_freeBits (m : Mnemonic) : m.row.mask = ~~~ freeBits m := by cases m <;> rfl

theorem selects_iff_and (m : Mnemonic) (w : U32) : m.row.selects w = true ↔ w &&& m.row.mask = m.row.pattern := by
  rw [OpcodeRow.selects, beq_iff_eq]

/-- A row selects the words with its OP value whose unused bits are zero: `(w & mask) = match` says what the decoder
checks. -/
theorem selects_iff (m : Mnemonic) (w : U32) :
    m.row.selects w = true ↔ opField w = m.op ∧ w &&& m.unusedBits = 0 := by
  rw [selects_iff_and]
  constructor
  · intro h
    constructor
    · have hop : opOnly (opField w) = opOnly m.op :=
        calc opOnly (opField w) = w &&& 0xFF := (and_opMask w).symm
          _ = w &&& (m.row.mask &&& 0xFF) := by cases m <;> rfl
          _ = m.row.pattern &&& 0xFF := by rw [← BitVec.and_assoc, h]
          _ = opOnly m.op := by cases m <;> rfl
      rw [← opField_opOnly (opField w), hop, opField_opOnly]
    · calc w &&& m.unusedBits = w &&& (m.row.mask &&& m.unusedBits) := by cases m <;> rfl
        _ = m.row.pattern &&& m.unusedBits := by rw [← BitVec.and_assoc, h]
        _ = 0 := by cases m <;> rfl
  · rintro ⟨hop, hunused⟩
    rw [row_mask, BitVec.and_or_distrib_left, and_opMask, hop, hunused, row_pattern, BitVec.ofNat_eq_ofNat,
      BitVec.or_zero]

/-- A word decodes to a command of the row that selects it. -/
theorem decode_eq_ok_iff_selects (w : U32) (i : Instr) :
    decode w = .ok i ↔ i.mnemonic.row.selects w = true ∧ i.mnemonic.command w = i := by
  rw [decode_eq_ok_iff, selects_iff]
  constructor
  · rintro ⟨m, hop, hunused, rfl⟩
    rw [mnemonic_command]
    exact ⟨⟨hop, hunused⟩, rfl⟩
  · rintro ⟨⟨hop, hunused⟩, hi⟩
    exact ⟨_, hop, hunused, hi⟩

theorem decode_of_selects {m : Mnemonic} {w : U32} (h : m.row.selects w = true) : decode w = .ok (m.command w) := by
  rw [decode_eq_ok_iff_selects, mnemonic_command]
  exact ⟨h, rfl⟩

/-- A word that no row selects is rejected. -/
theorem decode_of_unselected {w : U32} (h : ∀ m : Mnemonic, m.row.selects w = false) :
    ∃ e, decode w = .error e := by
  cases hd : decode w with
  | error e => exact ⟨e, rfl⟩
  | ok i =>
    have hsel := ((decode_eq_ok_iff_selects w i).1 hd).1
    rw [h] at hsel
    cases hsel

/-- No two rows overlap: OP already tells them apart. -/
theorem mnemonic_eq_of_selects {m m' : Mnemonic} {w : U32} (h : m.row.selects w = true)
    (h' : m'.row.selects w = true) : m = m' :=
  op_injective (((selects_iff m w).1 h).1.symm.trans ((selects_iff m' w).1 h').1)

/-! The word of a command (R81, R82, R85). -/

/-- Every encoding is selected by its own row. -/
theorem selects_encode (i : Instr) : i.mnemonic.row.selects (encode i) = true := by
  rw [selects_iff_and]
  cases i with
  | seglen syn fin => exact Laws.RowMatch.seglen syn fin
  | segRx syn fin rst ack win => exact Laws.RowMatch.segRx syn fin rst ack win
  | rxStatus ended => exact Laws.RowMatch.rxStatus ended
  | txSent syn fin => exact Laws.RowMatch.txSent syn fin
  | _ => rfl

/-- The window of a SEG_RX word is IMM16. -/
theorem imm16Field_encode_segRx (syn fin rst ack : Bool) (win : U16) :
    imm16Field (encode (.segRx syn fin rst ack win)) = win := by
  apply BitVec.eq_of_getLsbD_eq
  intro k hk
  have hbits := encode_segRx_getLsbD syn fin rst ack win (16 + k)
  iterate 6 rw [if_neg (by omega)] at hbits
  rw [imm16Field, BitVec.getLsbD_extractLsb', hbits, Nat.add_sub_cancel_left, decide_eq_true hk, Bool.true_and]

/-- The fields of an encoding are the operands encoded. -/
theorem command_encode (i : Instr) : i.mnemonic.command (encode i) = i := by
  cases i with
  | seglen syn fin => revert syn fin; decide
  | segRx syn fin rst ack win =>
    simp only [Instr.mnemonic, Mnemonic.command, imm16Field_encode_segRx, flagField, encode_segRx_getLsbD]
    rfl
  | rxStatus ended => revert ended; decide
  | txSent syn fin => revert syn fin; decide
  | _ => rfl

/-- Settles O1: the encoding is selected by its own row, and its fields are the operands. -/
theorem decodeEncodeRoundTrip : Obligations.DecodeEncodeRoundTrip :=
  fun i => (decode_eq_ok_iff_selects _ i).2 ⟨selects_encode i, command_encode i⟩

/-! A word is determined by the row that selects it and the command it gives (R84). -/

theorem Flag.bit_bounds (f : Flag) : 8 ≤ f.bit ∧ f.bit < 16 := by cases f <;> decide

theorem Flag.bit_injective {f g : Flag} (h : f.bit = g.bit) : f = g := by cases f <;> cases g <;> trivial

theorem getLsbD_two_pow_bit (f : Flag) (k : Nat) : (BitVec.ofNat 32 (2 ^ f.bit)).getLsbD k = decide (f.bit = k) := by
  rw [BitVec.getLsbD_ofNat, Nat.testBit_two_pow, Bool.and_eq_right_iff_imp]
  intro hk
  have hbit := f.bit_bounds
  have hk : f.bit = k := of_decide_eq_true hk
  exact decide_eq_true (by omega)

/-- The flag bits are those of the letters, in any order and however often a letter stands. -/
theorem flagBits_getLsbD (flags : List Flag) (k : Nat) :
    (flagBits flags).getLsbD k = true ↔ ∃ f ∈ flags, f.bit = k := by
  suffices hfold : ∀ w : U32, (flags.foldl (fun w f => w ||| BitVec.ofNat 32 (2 ^ f.bit)) w).getLsbD k = true ↔
      w.getLsbD k = true ∨ ∃ f ∈ flags, f.bit = k by
    rw [flagBits, hfold]
    simp
  induction flags with
  | nil => simp
  | cons f rest ih =>
    intro w
    rw [List.foldl_cons, ih, BitVec.getLsbD_or, getLsbD_two_pow_bit]
    simp [or_assoc]

/-- The free bits of a row are its letters and, for SEG_RX, IMM16. -/
theorem freeBits_getLsbD (m : Mnemonic) {k : Nat} (hk : k < 32) :
    (freeBits m).getLsbD k = true ↔ (∃ f ∈ m.freeFlags, f.bit = k) ∨ (m = .segRx ∧ 16 ≤ k) := by
  have himm : ∀ k < 32, (0xFFFF0000 : U32).getLsbD k = decide (16 ≤ k) := by decide
  rw [freeBits, BitVec.getLsbD_or, Bool.or_eq_true, flagBits_getLsbD, Mnemonic.hasWindow]
  refine or_congr_right ?_
  by_cases hm : m = .segRx
  · rw [if_pos (beq_iff_eq.2 hm), himm k hk, decide_eq_true_eq, and_iff_right hm]
  · simp [hm]

/-- A command shows every letter of its row. -/
theorem flagField_eq_of_command_eq {m : Mnemonic} {x w : U32} (h : m.command x = m.command w) :
    ∀ f ∈ m.freeFlags, flagField x f = flagField w f := by
  cases m <;> simp_all [Mnemonic.command, Mnemonic.freeFlags]

/-- SEG_RX shows IMM16. -/
theorem imm16Field_eq_of_command_eq {x w : U32} (h : Mnemonic.segRx.command x = Mnemonic.segRx.command w) :
    imm16Field x = imm16Field w := by
  injection h

/-- Two words of a row that give the same command agree on the row's free bits. -/
theorem and_freeBits_eq_of_command_eq {m : Mnemonic} {x w : U32} (h : m.command x = m.command w) :
    x &&& freeBits m = w &&& freeBits m := by
  apply BitVec.eq_of_getLsbD_eq
  intro k hk
  rw [BitVec.getLsbD_and, BitVec.getLsbD_and]
  cases hfree : (freeBits m).getLsbD k with
  | false => rw [Bool.and_false, Bool.and_false]
  | true =>
    rw [Bool.and_true, Bool.and_true]
    obtain ⟨f, hf, rfl⟩ | ⟨rfl, h16⟩ := (freeBits_getLsbD m hk).1 hfree
    · exact flagField_eq_of_command_eq h f hf
    · have hbit := congrArg (BitVec.getLsbD · (k - 16)) (imm16Field_eq_of_command_eq h)
      simpa [imm16Field, BitVec.getLsbD_extractLsb', show k - 16 < 16 by omega, Nat.add_sub_of_le h16] using hbit

/-- The mask fixes the other bits, so the two words are the same. -/
theorem eq_of_selects_of_command_eq {m : Mnemonic} {x w : U32} (hx : m.row.selects x = true)
    (hw : m.row.selects w = true) (h : m.command x = m.command w) : x = w := by
  have hsplit (v : U32) : v = (v &&& m.row.mask) ||| (v &&& freeBits m) := by
    rw [row_mask_eq_not_freeBits, ← BitVec.and_or_distrib_left, BitVec.or_comm, BitVec.or_not_self,
      BitVec.and_allOnes]
  rw [hsplit x, hsplit w, (selects_iff_and m x).1 hx, (selects_iff_and m w).1 hw, and_freeBits_eq_of_command_eq h]

theorem encode_of_decode {w : U32} {i : Instr} (h : decode w = .ok i) : encode i = w := by
  obtain ⟨hsel, hcommand⟩ := (decode_eq_ok_iff_selects w i).1 h
  exact eq_of_selects_of_command_eq (selects_encode i) hsel ((command_encode i).trans hcommand.symm)

/-- Settles O2: the word and the encoding are words of one row that give one command. -/
theorem decodedWordIsItsEncoding : Obligations.DecodedWordIsItsEncoding :=
  fun _ _ h => encode_of_decode h

/-- Settles O3: each clause is one of the facts about rows; an unselected word is rejected, so CMD ends with EOPC. -/
theorem commandWordSelectsUniqueRow : Obligations.CommandWordSelectsUniqueRow := by
  refine ⟨fun m m' w => mnemonic_eq_of_selects, fun m w h => ⟨_, decode_of_selects h, mnemonic_command m w⟩,
    row_mask_eq_not_freeBits, fun s v rest hq hnone => ?_⟩
  obtain ⟨e, he⟩ := decode_of_unselected hnone
  rw [step_of_cons hq, performAccess_cmd, issueCommand_of_error he]

/-! The word of an assembler command (R88). -/

/-- The bits of an assembler command's word: the row's match, the letters, and the window in IMM16. -/
theorem asmWord_getLsbD (c : AsmCmd) {k : Nat} (hk : k < 32) :
    (asmWord c).getLsbD k = true ↔
      (opOnly c.mnemonic.op).getLsbD k = true ∨ (∃ f ∈ c.flags, f.bit = k) ∨
        (16 ≤ k ∧ (c.win.getD 0).testBit (k - 16) = true) := by
  simp only [asmWord, row_pattern, BitVec.getLsbD_or, Bool.or_eq_true, flagBits_getLsbD, BitVec.getLsbD_ofNat, hk,
    Nat.testBit_mul_two_pow, decide_true, Bool.true_and, Bool.and_eq_true, decide_eq_true_eq, or_assoc]

theorem flagField_asmWord (c : AsmCmd) (f : Flag) : flagField (asmWord c) f = c.flags.contains f := by
  have hbit := f.bit_bounds
  rw [Bool.eq_iff_iff, flagField, asmWord_getLsbD c (by omega), opOnly_getLsbD, if_neg (by omega),
    List.contains_iff_mem]
  constructor
  · rintro (h | ⟨g, hg, hgf⟩ | ⟨h16, -⟩)
    · cases h
    · exact Flag.bit_injective hgf ▸ hg
    · omega
  · exact fun hf => .inr (.inl ⟨f, hf, rfl⟩)

theorem imm16Field_asmWord (c : AsmCmd) : imm16Field (asmWord c) = BitVec.ofNat 16 (c.win.getD 0) := by
  apply BitVec.eq_of_getLsbD_eq
  intro k hk
  rw [imm16Field, BitVec.getLsbD_extractLsb', BitVec.getLsbD_ofNat, decide_eq_true hk, Bool.true_and, Bool.true_and,
    Bool.eq_iff_iff, asmWord_getLsbD c (by omega), opOnly_getLsbD, if_neg (by omega), Nat.add_sub_cancel_left]
  constructor
  · rintro (h | ⟨f, -, hf⟩ | ⟨-, hwin⟩)
    · cases h
    · have hbit := f.bit_bounds
      omega
    · exact hwin
  · exact fun hwin => .inr (.inr ⟨by omega, hwin⟩)

/-- The fields of the word are the letters and the window written. -/
theorem command_asmWord (c : AsmCmd) : c.mnemonic.command (asmWord c) = asmInstr c := by
  unfold Mnemonic.command asmInstr
  cases c.mnemonic <;> simp only [flagField_asmWord, imm16Field_asmWord]

/-- A legal command writes only letters of its row, and a window only on SEG_RX. -/
theorem wellFormed_asm {c : AsmCmd} (h : c.wellFormed = true) :
    (∀ f ∈ c.flags, f ∈ c.mnemonic.freeFlags) ∧ (c.mnemonic = .segRx ∨ c.win.getD 0 = 0) := by
  obtain ⟨hflags, hwin⟩ := Bool.and_eq_true_iff.1 h
  refine ⟨(List.isSublist_iff_sublist.1 hflags).subset, ?_⟩
  cases hw : c.win with
  | none => exact .inr rfl
  | some n =>
    rw [hw] at hwin
    exact .inl (beq_iff_eq.1 (Bool.and_eq_true_iff.1 hwin).1)

/-- A legal command's word differs from its row's match in free bits only. -/
theorem selects_asmWord {c : AsmCmd} (h : c.wellFormed = true) : c.mnemonic.row.selects (asmWord c) = true := by
  obtain ⟨hflags, hwin⟩ := wellFormed_asm h
  rw [selects_iff_and, row_mask_eq_not_freeBits, row_pattern]
  apply BitVec.eq_of_getLsbD_eq
  intro k hk
  rw [BitVec.getLsbD_and, BitVec.getLsbD_not, decide_eq_true hk, Bool.true_and, Bool.eq_iff_iff, Bool.and_eq_true,
    asmWord_getLsbD c hk, Bool.not_eq_true', ← Bool.not_eq_true, freeBits_getLsbD c.mnemonic hk]
  constructor
  · rintro ⟨hop | ⟨f, hf, hfk⟩ | ⟨h16, hbit⟩, hfixed⟩
    · exact hop
    · exact absurd (.inl ⟨f, hflags f hf, hfk⟩) hfixed
    · obtain hm | hzero := hwin
      · exact absurd (.inr ⟨hm, h16⟩) hfixed
      · rw [hzero, Nat.zero_testBit] at hbit
        cases hbit
  · intro hop
    have h8 : k < 8 := by
      by_contra hge
      rw [opOnly_getLsbD, if_neg hge] at hop
      cases hop
    refine ⟨.inl hop, ?_⟩
    rintro (⟨f, -, hfk⟩ | ⟨-, h16⟩)
    · have hbit := f.bit_bounds
      omega
    · omega

/-- Settles O5: the row selects the word, whose fields are the operands written; its encoding is then the word (O2). -/
theorem assemblerWordsDecode : Obligations.AssemblerWordsDecode := by
  intro c h
  have hdecode : decode (asmWord c) = .ok (asmInstr c) := by
    rw [← command_asmWord]
    exact decode_of_selects (selects_asmWord h)
  exact ⟨hdecode, encode_of_decode hdecode⟩

/-- Settles O4: the decoder on each word. -/
theorem sampleWordsDecode : Obligations.SampleWordsDecode := by
  unfold Obligations.SampleWordsDecode
  decide

end Sys2Proof
end

section
/-! The operands of a command (30_encoding.md R83): it reads of ARG0-ARG2 only the bits it names. -/

namespace Sys2Proof.Machine

/-- Other values in the three operand registers. -/
def State.withArgs (s : State) (a0 a1 a2 : U64) : State := { s with arg0 := a0, arg1 := a1, arg2 := a2 }

/-- The values differ from those of `s` only in operand bits that `m` does not name. -/
def SameOperands (m : Mnemonic) (s : State) (a0 a1 a2 : U64) : Prop :=
  a0 &&& (operandBits m).1 = s.arg0 &&& (operandBits m).1 ∧
  a1 &&& (operandBits m).2.1 = s.arg1 &&& (operandBits m).2.1 ∧
  a2 &&& (operandBits m).2.2 = s.arg2 &&& (operandBits m).2.2

theorem and_fullMask_inj {a b : U64} : a &&& 0xFFFFFFFFFFFFFFFF = b &&& 0xFFFFFFFFFFFFFFFF ↔ a = b := by
  have hones : (0xFFFFFFFFFFFFFFFF : U64) = BitVec.allOnes 64 := rfl
  rw [hones, BitVec.and_allOnes, BitVec.and_allOnes]

theorem low32_append (hi lo : U32) : low32 (hi ++ lo) = lo := BitVec.extractLsb'_append_eq_right

theorem and_lowMask (v : U64) : v &&& 0x00000000FFFFFFFF = (0 : U32) ++ low32 v := by
  rw [low32_eq_setWidth]
  exact BitVec.and_setWidth_allOnes 32 32 v

theorem and_lowMask_inj {a b : U64} : a &&& 0x00000000FFFFFFFF = b &&& 0x00000000FFFFFFFF ↔ low32 a = low32 b := by
  rw [and_lowMask, and_lowMask]
  refine ⟨fun h => ?_, fun h => by rw [h]⟩
  rw [← low32_append 0 (low32 a), h, low32_append]

section
variable {s : State} {a0 a1 a2 : U64}

/-- SEG_RX reads all of ARG0 and, as the payload length, the low half of ARG1. -/
theorem segRxBody_withArgs (syn fin rst ack : Bool) (win : U16) (h1 : low32 a1 = low32 s.arg1) :
    segRxBody syn fin rst ack win (s.withArgs s.arg0 a1 a2) =
      { segRxBody syn fin rst ack win s with
        st := (segRxBody syn fin rst ack win s).st.withArgs s.arg0 a1 a2 } := by
  cases rst with
  | true => rfl
  | false =>
    by_cases hseen : s.conn.rxSynSeen = true ∨ syn = true
    · have hlen : segPayloadLen (s.withArgs s.arg0 a1 a2) = segPayloadLen s := h1
      rw [segRxBody_of_processed syn fin ack win hseen,
        segRxBody_of_processed syn fin ack win (s := s.withArgs s.arg0 a1 a2) hseen, hlen]
      rfl
    · obtain ⟨hs, rfl⟩ : s.conn.rxSynSeen = false ∧ syn = false := by simpa using hseen
      rw [segRxBody_of_discard fin ack win hs,
        segRxBody_of_discard fin ack win (s := s.withArgs s.arg0 a1 a2) hs]
      rfl

theorem closeBody_withArgs :
    closeBody (s.withArgs a0 a1 a2) = { closeBody s with st := (closeBody s).st.withArgs a0 a1 a2 } := by
  cases ha : s.conn.active with
  | true =>
    rw [closeBody_of_active ha, closeBody_of_active (s := s.withArgs a0 a1 a2) ha]
    rfl
  | false =>
    rw [closeBody_of_inactive ha, closeBody_of_inactive (s := s.withArgs a0 a1 a2) ha]

/-- The checks of a command look at no operand bit but those it names. -/
theorem checkOf_withArgs {i : Instr} (h : SameOperands i.mnemonic s a0 a1 a2) :
    checkOf i (s.withArgs a0 a1 a2) = checkOf i s := by
  obtain ⟨h0, h1, h2⟩ := h
  cases i with
  | rxStatus ended =>
    obtain rfl := and_fullMask_inj.1 h0
    obtain rfl := and_fullMask_inj.1 h1
    rfl
  | txSent syn fin =>
    have hlen : payloadLen (s.withArgs a0 a1 a2) = payloadLen s := and_lowMask_inj.1 h0
    rw [checkOf, txSentCheck, hlen]
    rfl
  | txRetire =>
    obtain rfl := and_fullMask_inj.1 h0
    rfl
  | _ => rfl

/-- The writes of a command look at no operand bit but those it names, and leave ARG0-ARG2 as they are. -/
theorem bodyOf_withArgs {i : Instr} (h : SameOperands i.mnemonic s a0 a1 a2) :
    bodyOf i (s.withArgs a0 a1 a2) = { bodyOf i s with st := (bodyOf i s).st.withArgs a0 a1 a2 } := by
  obtain ⟨h0, h1, h2⟩ := h
  cases i with
  | wrap =>
    obtain rfl := and_fullMask_inj.1 h0
    have hisn : convIsn (s.withArgs s.arg0 a1 a2) = convIsn s := and_lowMask_inj.1 h1
    rw [bodyOf, wrapBody, hisn]
    rfl
  | unwrap =>
    obtain rfl := and_fullMask_inj.1 h2
    have hseqno : unwrapSeqno (s.withArgs a0 a1 s.arg2) = unwrapSeqno s := and_lowMask_inj.1 h0
    have hisn : convIsn (s.withArgs a0 a1 s.arg2) = convIsn s := and_lowMask_inj.1 h1
    rw [bodyOf, unwrapBody, hseqno, hisn]
    rfl
  | seglen syn fin =>
    have hlen : payloadLen (s.withArgs a0 a1 a2) = payloadLen s := and_lowMask_inj.1 h0
    rw [bodyOf, seglenBody, hlen]
    rfl
  | txSent syn fin =>
    have hlen : payloadLen (s.withArgs a0 a1 a2) = payloadLen s := and_lowMask_inj.1 h0
    rw [bodyOf, txSentBody, hlen]
    rfl
  | segRx syn fin rst ack win =>
    obtain rfl := and_fullMask_inj.1 h0
    exact segRxBody_withArgs syn fin rst ack win (and_lowMask_inj.1 h1)
  | rxStatus ended =>
    obtain rfl := and_fullMask_inj.1 h0
    obtain rfl := and_fullMask_inj.1 h1
    rfl
  | tmrTick =>
    obtain rfl := and_fullMask_inj.1 h0
    rfl
  | tick =>
    obtain rfl := and_fullMask_inj.1 h0
    simp only [bodyOf, tickBody_flat]
    rfl
  | txRetire =>
    obtain rfl := and_fullMask_inj.1 h0
    simp only [bodyOf, txRetireBody_eq]
    rfl
  | close => exact closeBody_withArgs
  | segEnd => simp only [bodyOf, segEndBody_eq]; rfl
  | eval => simp only [bodyOf, evalBody_eq]; rfl
  | stamp => simp only [bodyOf, stampBody_eq]; rfl
  | nop | tmrStart | tmrStop | tmrReset | tmrDouble | tmrQuery | txEof | init => rfl

/-- A command on other operand registers that agree in the bits it names ends in the same state, but for those
registers. -/
theorem exec_withArgs {i : Instr} {t : State} (h : SameOperands i.mnemonic s a0 a1 a2) (he : exec i s = .next t) :
    exec i (s.withArgs a0 a1 a2) = .next (t.withArgs a0 a1 a2) := by
  rw [exec_form, runCommand, checkOf_withArgs h, bodyOf_withArgs h]
  obtain ⟨c, hc, rfl⟩ | ⟨hc, rfl⟩ := exec_cases he <;> rw [hc] <;> rfl

end

/-- Settles O41: neither the checks nor the writes of a command look at the other bits. -/
theorem unnamedOperandBitsIgnored : Obligations.UnnamedOperandBitsIgnored :=
  fun _ _ _ _ _ _ h0 h1 h2 he => exec_withArgs ⟨h0, h1, h2⟩ he

end Sys2Proof.Machine
end

section
/-! The member of a residue class that `unwrap` gives (40_seqspace.md R101, R103), and the commands WRAP, UNWRAP and
SEGLEN (R104-R106). -/

namespace Sys2Proof.Machine

/-- The residue class of a 64-bit value, on numbers. -/
theorem setWidth32_eq_iff_mod (x : U64) (o : U32) : x.setWidth 32 = o ↔ x.toNat % 2 ^ 32 = o.toNat := by
  rw [← BitVec.toNat_inj, BitVec.toNat_setWidth]

section
variable (seqno isn : U32) (cp : U64)

/-- The result lies at most half a lap below the checkpoint, unless there is no lap above it, and less than half a lap
above the checkpoint, unless it is in the first lap. -/
theorem unwrap_near :
    (unwrap seqno isn cp).toNat % 2 ^ 32 = (seqno - isn).toNat ∧
    (cp.toNat ≤ (unwrap seqno isn cp).toNat + 2 ^ 31 ∨ 2 ^ 64 ≤ (unwrap seqno isn cp).toNat + 2 ^ 32) ∧
    ((unwrap seqno isn cp).toNat < cp.toNat + 2 ^ 31 ∨ (unwrap seqno isn cp).toNat < 2 ^ 32) := by
  have hcp := cp.isLt
  have ho := (seqno - isn).isLt
  rw [unwrap_toNat]
  dsimp only
  split
  · omega
  · split <;> omega

theorem setWidth_unwrap : (unwrap seqno isn cp).setWidth 32 = seqno - isn :=
  (setWidth32_eq_iff_mod _ _).2 (unwrap_near seqno isn cp).1

/-- Another member of the class is at least as far from the checkpoint, and one as far is larger. -/
theorem unwrap_nearest {x : U64} (hx : x.setWidth 32 = seqno - isn) :
    |((unwrap seqno isn cp).toNat : Int) - cp.toNat| ≤ |(x.toNat : Int) - cp.toNat| ∧
    (|((unwrap seqno isn cp).toNat : Int) - cp.toNat| = |(x.toNat : Int) - cp.toNat| →
      (unwrap seqno isn cp).toNat ≤ x.toNat) := by
  rw [setWidth32_eq_iff_mod] at hx
  obtain ⟨hclass, hbelow, habove⟩ := unwrap_near seqno isn cp
  have hlt := x.isLt
  simp only [Int.abs_eq_natAbs]
  omega

end

/-- Settles O18: no lap below or above is nearer (`unwrap_near`), and the pseudocode is `unwrap_toNat`. -/
theorem unwrapIsNearestMember : Obligations.UnwrapIsNearestMember :=
  fun seqno isn cp => ⟨setWidth_unwrap seqno isn cp, fun _ => unwrap_nearest seqno isn cp, unwrap_toNat seqno isn cp⟩

theorem wrap_unwrap (q isn : U32) (cp : U64) : wrap (unwrap q isn cp) isn = q := by
  rw [wrap, low32_eq_setWidth, setWidth_unwrap, BitVec.add_comm, BitVec.sub_add_cancel]

/-- The class of `n`'s sequence number is the class of `n`. -/
theorem wrap_sub (n : U64) (isn : U32) : wrap n isn - isn = n.setWidth 32 := by
  rw [wrap, low32_eq_setWidth, BitVec.add_comm, BitVec.add_sub_cancel]

/-- The result is as near to the checkpoint as `n` or nearer, and two members of a class that are both less than half a
lap from it are one. -/
theorem unwrap_wrap (n cp : U64) (isn : U32) (h : |(n.toNat : Int) - cp.toNat| < 2 ^ 31) :
    unwrap (wrap n isn) isn cp = n := by
  have hclass := setWidth_unwrap (wrap n isn) isn cp
  have hnear := (unwrap_nearest (wrap n isn) isn cp (wrap_sub n isn).symm).1
  rw [wrap_sub, setWidth32_eq_iff_mod, BitVec.toNat_setWidth] at hclass
  apply BitVec.eq_of_toNat_eq
  simp only [Int.abs_eq_natAbs] at h hnear
  omega

theorem unwrap_eq_lapMember (q isn : U32) (cp : U64) :
    unwrap q isn cp = lapMember q isn cp - 0x100000000 ∨ unwrap q isn cp = lapMember q isn cp ∨
      unwrap q isn cp = lapMember q isn cp + 0x100000000 := by
  rw [unwrap]
  split
  · exact .inl rfl
  · split
    · exact .inr (.inr rfl)
    · exact .inr (.inl rfl)

/-- Away from both ends of the range the result is within half a lap of the checkpoint, a tie going below. -/
theorem unwrap_halfLap (q isn : U32) (cp : U64) (hlo : 2 ^ 31 ≤ cp.toNat) (hhi : cp.toNat ≤ 2 ^ 64 - 2 ^ 31 - 1) :
    |((unwrap q isn cp).toNat : Int) - cp.toNat| ≤ 2 ^ 31 ∧
    (|((unwrap q isn cp).toNat : Int) - cp.toNat| = 2 ^ 31 → (unwrap q isn cp).toNat = cp.toNat - 2 ^ 31) := by
  obtain ⟨-, hbelow, habove⟩ := unwrap_near q isn cp
  have hlt := (unwrap q isn cp).isLt
  rw [Int.abs_eq_natAbs]
  omega

/-- Settles O19: laws 1 and 2 say that `unwrap` picks a member of the class, the nearest; laws 3 and 4, which one. -/
theorem wrapUnwrapLaws : Obligations.WrapUnwrapLaws :=
  ⟨wrap_unwrap, unwrap_wrap, unwrap_eq_lapMember, unwrap_halfLap⟩

/-- A command without checks completes in every state, with its body's writes. -/
theorem exec_of_noCheck {i : Instr} (h : checkOf i = noCheck) (s : State) :
    exec i s = .next { (bodyOf i s).st with status := { code := .ok, req := (bodyOf i s).req } } := by
  rw [exec_form, runCommand_of_completed (by rw [h, noCheck_apply])]

/-- SEGLEN's word (R106): S in bit 8 and F in bit 9. -/
theorem encode_seglen (syn fin : Bool) : encode (.seglen syn fin) = 0x00000003 ||| bitAt syn 8 ||| bitAt fin 9 := by
  cases syn <;> cases fin <;> rfl

/-- Settles O20: the words are the commands' encodings (O1), and the commands check nothing. -/
theorem sequenceSpaceCommands : Obligations.SequenceSpaceCommands := by
  refine ⟨decodeEncodeRoundTrip .wrap, decodeEncodeRoundTrip .unwrap,
    fun syn fin => encode_seglen syn fin ▸ decodeEncodeRoundTrip (.seglen syn fin),
    fun s => ⟨?_, ?_, fun syn fin => ?_⟩⟩
  · rw [exec_of_noCheck rfl, bodyOf, wrapBody, wrap, zext64, wrapIndex, convIsn, low32_eq_setWidth, low32_eq_setWidth]
  · rw [exec_of_noCheck rfl, bodyOf, unwrapBody, unwrapSeqno, convIsn, unwrapCheckpoint, low32_eq_setWidth,
      low32_eq_setWidth]
  · rw [exec_of_noCheck rfl, bodyOf, seglenBody, seglen, payloadLen, low32_eq_setWidth, BitVec.toNat_setWidth]

end Sys2Proof.Machine
end

section
/-! The retransmission timer (41_timer.md R121-R126) as the timer commands TMR_START to TMR_QUERY (R127-R132) use it. -/

namespace Sys2Proof.Machine

/-- The timer has expired when it runs and the time elapsed has reached the timeout (R126). -/
theorem tExpired_eq (s : State) :
    tExpired s = decide (s.conn.tmrRunning = true ∧ s.tmrRto.toNat ≤ s.tmrElapsed.toNat) := by
  rw [tExpired, Bool.decide_and, Bool.decide_eq_true]

/-- Settles O22: the words are the commands' encodings (O1), and the commands check nothing, so each ends with its own
timer action. -/
theorem timerCommands : Obligations.TimerCommands := by
  refine ⟨⟨decodeEncodeRoundTrip .tmrStart, decodeEncodeRoundTrip .tmrStop, decodeEncodeRoundTrip .tmrReset,
    decodeEncodeRoundTrip .tmrDouble, decodeEncodeRoundTrip .tmrTick, decodeEncodeRoundTrip .tmrQuery⟩,
    fun s => ⟨?start, ?stop, ?reset, ?double, ?tick, ?query⟩⟩
  case start => rw [exec_of_noCheck rfl, bodyOf, tmrStartBody, tStart]
  case stop => rw [exec_of_noCheck rfl, bodyOf, tmrStopBody, tStop, State.withConn]
  case reset => rw [exec_of_noCheck rfl, bodyOf, tmrResetBody, tReset, zext64]
  case double => rw [exec_of_noCheck rfl, bodyOf, tmrDoubleBody, tDouble, satDbl64]
  case tick => rw [exec_of_noCheck rfl, bodyOf, tmrTickBody, tTick, tickDelta, satAdd64]
  case query => rw [exec_of_noCheck rfl, bodyOf, tmrQueryBody, tExpired_eq]

end Sys2Proof.Machine
end

section
/-! The sender's commands TX_SENT, TX_RETIRE and TX_EOF (42_sender_tracking.md R141-R143): which check refuses them, and
the state an accepted command ends in. -/

namespace Sys2Proof.Machine

/-! The two ends of a command, as `exec` answers them, and its checks in the order of 60_exceptions.md R221. -/

theorem exec_of_refused {i : Instr} {s : State} {c : Code} (h : checkOf i s = some c) :
    exec i s = .next { s with status := { code := c, req := {} } } := by
  rw [exec_form, runCommand_of_refused h]

theorem exec_of_accepted {i : Instr} {s : State} (h : checkOf i s = none) :
    exec i s = .next { (bodyOf i s).st with status := { code := .ok, req := (bodyOf i s).req } } := by
  rw [exec_form, runCommand_of_completed h]

/-- On an inactive connection the later checks are not reached. -/
theorem needActive_of_inactive {s : State} (h : s.conn.active = false) (rest : Option Code) :
    needActive s rest = some .einactive :=
  (needActive_eq_some s .einactive rest).2 (.inl ⟨h, rfl⟩)

theorem needActive_of_active {s : State} (h : s.conn.active = true) (rest : Option Code) :
    needActive s rest = rest := by
  simp [needActive, failIf, h]

/-- One more check with the code of the checks after it adds no other outcome. -/
theorem failIf_none_or_some {rest : Option Code} {c : Code} (failing : Bool) (h : rest = none ∨ rest = some c) :
    failIf failing c rest = none ∨ failIf failing c rest = some c := by
  cases failing with
  | true => exact .inr rfl
  | false => exact h

/-! TX_SENT (R141). -/

theorem encode_txSent (syn fin : Bool) : encode (.txSent syn fin) = 0x00000023 ||| bitAt syn 8 ||| bitAt fin 9 := by
  cases syn <;> cases fin <;> rfl

/-- The length in sequence space, on the bits of ARG0 that TX_SENT reads (R83, R102). -/
theorem toNat_seglen_payloadLen (syn fin : Bool) (s : State) :
    (seglen syn (payloadLen s) fin).toNat = b2n syn + s.arg0.toNat % 2 ^ 32 + b2n fin := by
  rw [seglen_toNat, payloadLen, low32_eq_setWidth, BitVec.toNat_setWidth]

theorem add_seglen_payloadLen (x : U64) (syn fin : Bool) (s : State) :
    x + seglen syn (payloadLen s) fin = BitVec.ofNat 64 (x.toNat + (b2n syn + s.arg0.toNat % 2 ^ 32 + b2n fin)) := by
  rw [← toNat_seglen_payloadLen, BitVec.ofNat_add, BitVec.ofNat_toNat, BitVec.ofNat_toNat, BitVec.setWidth_eq,
    BitVec.setWidth_eq]

/-- On a live connection TX_SENT is accepted or refused with EINVAL. -/
theorem txSentCheck_of_active (syn fin : Bool) {s : State} (ha : s.conn.active = true) :
    txSentCheck syn fin s = none ∨ txSentCheck syn fin s = some .einval := by
  rw [txSentCheck, needActive_of_active ha]
  iterate 5 apply failIf_none_or_some
  exact .inl rfl

/-- An accepted TX_SENT is in none of the five cases. -/
theorem txSentCheck_eq_einval {syn fin : Bool} {s : State} (ha : s.conn.active = true)
    (h : b2n syn + s.arg0.toNat % 2 ^ 32 + b2n fin = 0 ∨ s.conn.txFinSent = true ∨
      (syn = true ∧ s.conn.txSynSent = true) ∨ (syn = false ∧ s.conn.txSynSent = false) ∨
      2 ^ 64 - 1 < s.txNext.toNat + (b2n syn + s.arg0.toNat % 2 ^ 32 + b2n fin)) :
    txSentCheck syn fin s = some .einval := by
  refine (txSentCheck_of_active syn fin ha).resolve_left fun hnone => ?_
  obtain ⟨-, hpos, hfin, hsyn, hfit⟩ := (txSentCheck_eq_none syn fin s).1 hnone
  rw [toNat_seglen_payloadLen] at hpos hfit
  obtain hzero | hfin' | ⟨rfl, hsent⟩ | ⟨rfl, hsent⟩ | hover := h
  · exact hpos hzero
  · exact Bool.false_ne_true (hfin.symm.trans hfin')
  · rw [hsent] at hsyn; cases hsyn
  · rw [hsent] at hsyn; cases hsyn
  · omega

/-- TX_SENT's writes once it is accepted: the SYN is sent now or was before, and no FIN was sent before. -/
theorem txSentBody_of_accepted {syn fin : Bool} {s : State} (hfin : s.conn.txFinSent = false)
    (hsyn : syn = !s.conn.txSynSent) :
    txSentBody syn fin s =
      (let len := b2n syn + s.arg0.toNat % 2 ^ 32 + b2n fin
       { st :=
        { s with
          res0 := s.txNext
          res1 := BitVec.setWidth 64 (s.cfgTxIsn + s.txNext.setWidth 32 : U32)
          txNext := BitVec.ofNat 64 (s.txNext.toNat + len)
          txInflight := BitVec.ofNat 64 (s.txInflight.toNat + len)
          tmrElapsed := if s.conn.tmrRunning = true then s.tmrElapsed else 0
          conn :=
            { s.conn with
              txSynSent := true, txFinSent := fin, txEof := s.conn.txEof || fin, tmrRunning := true
              txd := true } } }) := by
  have hsent : (s.conn.txSynSent || syn) = true := by rw [hsyn, Bool.or_not_self]
  simp only [txSentBody, add_seglen_payloadLen, zext64, wrap, low32_eq_setWidth, hsent, hfin, Bool.false_or]

/-- Settles O24: the word is the command's encoding (O1); the checks give EINACTIVE or EINVAL (`txSentCheck_eq_einval`),
or pass, and then the writes are `txSentBody_of_accepted`. -/
theorem txSentOutcome : Obligations.TxSentOutcome := by
  refine ⟨fun syn fin => encode_txSent syn fin ▸ decodeEncodeRoundTrip (.txSent syn fin),
    fun syn fin s => ⟨fun ha => ?inactive, fun ha hbad => ?invalid, fun ha hpos hfin hne hfit _ => ?accepted⟩⟩
  case inactive => exact exec_of_refused (needActive_of_inactive ha _)
  case invalid => exact exec_of_refused (txSentCheck_eq_einval ha hbad)
  case accepted =>
    have hsyn : syn = !s.conn.txSynSent := Bool.eq_not.2 hne
    rw [← toNat_seglen_payloadLen] at hpos hfit
    have hpass : checkOf (.txSent syn fin) s = none :=
      (txSentCheck_eq_none syn fin s).2 ⟨ha, hpos, hfin, hsyn, hfit⟩
    rw [exec_of_accepted hpass, bodyOf, txSentBody_of_accepted hfin hsyn]

/-! TX_RETIRE (R142). -/

/-- On a live connection TX_RETIRE is accepted or refused with EINVAL. -/
theorem txRetireCheck_of_active {s : State} (ha : s.conn.active = true) :
    txRetireCheck s = none ∨ txRetireCheck s = some .einval := by
  rw [txRetireCheck, needActive_of_active ha]
  iterate 2 apply failIf_none_or_some
  exact .inl rfl

/-- On exact integers: more is retired than is outstanding, or less would be left than is unacknowledged. -/
theorem txRetireCheck_eq_einval {s : State} (ha : s.conn.active = true) (hle : s.txAcked.toNat ≤ s.txNext.toNat)
    (h : s.txInflight.toNat < s.arg0.toNat ∨
      (s.txInflight.toNat : Int) - s.arg0.toNat < (s.txNext.toNat : Int) - s.txAcked.toNat) :
    txRetireCheck s = some .einval := by
  refine (txRetireCheck_of_active ha).resolve_left fun hnone => ?_
  obtain ⟨-, hn, hout⟩ := (txRetireCheck_eq_none s).1 hnone
  omega

/-- Settles O25: the word is the command's encoding (O1); with TX_ACKED ≤ TX_NEXT and n ≤ TX_INFLIGHT the differences
of the check are those of integers, and the writes are `txRetireBody_eq`. -/
theorem txRetireOutcome : Obligations.TxRetireOutcome := by
  refine ⟨decodeEncodeRoundTrip .txRetire,
    fun s => ⟨fun ha => ?inactive, fun ha hle hbad => ?invalid, fun ha hle hn hout => ?accepted⟩⟩
  case inactive => exact exec_of_refused (needActive_of_inactive ha _)
  case invalid => exact exec_of_refused (txRetireCheck_eq_einval ha hle hbad)
  case accepted =>
    have hleft : s.txNext.toNat - s.txAcked.toNat ≤ s.txInflight.toNat - s.arg0.toNat := by omega
    have hpass : checkOf .txRetire s = none := (txRetireCheck_eq_none s).2 ⟨ha, hn, hleft⟩
    rw [exec_of_accepted hpass, bodyOf, txRetireBody_eq]
    simp only [zext64, sub_eq_zero]

/-! TX_EOF (R143). -/

/-- Settles O26: the word is the command's encoding (O1), and the connection being active is the only check. -/
theorem txEofOutcome : Obligations.TxEofOutcome := by
  refine ⟨decodeEncodeRoundTrip .txEof, fun s => ⟨fun ha => ?inactive, fun ha => ?accepted⟩⟩
  case inactive => exact exec_of_refused (needActive_of_inactive ha _)
  case accepted =>
    have hpass : checkOf .txEof s = none := (txEofCheck_eq_none s).2 ha
    rw [exec_of_accepted hpass, bodyOf, txEofBody, State.withConn]

end Sys2Proof.Machine
end

section
/-! The receiver's acknowledgment number and window (43_receiver_feedback.md R160-R162), and the commands RX_STATUS and
STAMP (R163, R164): which reports are refused, and the state an accepted command ends in. -/

namespace Sys2Proof.Machine

/-! RX_STATUS (R163). -/

theorem encode_rxStatus (ended : Bool) : encode (.rxStatus ended) = 0x00000022 ||| bitAt ended 12 := by
  cases ended <;> rfl

/-- RX_STATUS has one refusal code. -/
theorem rxStatusCheck_none_or_einval (ended : Bool) (s : State) :
    rxStatusCheck ended s = none ∨ rxStatusCheck ended s = some .einval := by
  rw [rxStatusCheck]
  iterate 4 apply failIf_none_or_some
  exact .inl rfl

/-- An accepted report is in none of the four cases. -/
theorem rxStatusCheck_eq_einval {ended : Bool} {s : State}
    (h : (s.conn.rxSynSeen = false ∧ (s.arg0 ≠ 0 ∨ s.arg1 ≠ 0 ∨ ended = true)) ∨
      s.arg0.toNat < s.rxAssembled.toNat ∨ s.arg0.toNat < s.arg1.toNat ∨
      (s.conn.rxEnded = true ∧ (ended = false ∨ s.arg0 ≠ s.rxAssembled))) :
    rxStatusCheck ended s = some .einval := by
  refine (rxStatusCheck_none_or_einval ended s).resolve_left fun hnone => ?_
  obtain ⟨hunseen, hmono, hbuf, hfinal⟩ := (rxStatusCheck_eq_none ended s).1 hnone
  obtain ⟨hno, hbad⟩ | hless | hmore | ⟨hend, hbad⟩ := h
  · obtain ⟨ha, hb, rfl⟩ := hunseen hno
    simp [ha, hb] at hbad
  · omega
  · omega
  · obtain ⟨rfl, ha⟩ := hfinal hend
    simp [ha] at hbad

/-- Settles O27: the word is the command's encoding (O1); the checks give EINVAL in the four cases
(`rxStatusCheck_eq_einval`) and pass in their complement (`rxStatusCheck_eq_none`). -/
theorem rxStatusOutcome : Obligations.RxStatusOutcome := by
  refine ⟨fun e => encode_rxStatus e ▸ decodeEncodeRoundTrip (.rxStatus e),
    fun e s => ⟨fun hbad => ?invalid, fun hseen hmono hbuf hend => ?accepted⟩⟩
  case invalid => exact exec_of_refused (rxStatusCheck_eq_einval hbad)
  case accepted =>
    have hunseen : s.conn.rxSynSeen = false → s.arg0 = 0 ∧ s.arg1 = 0 ∧ e = false :=
      fun hno => by simpa [hno] using hseen
    have hfinal : s.conn.rxEnded = true → e = true ∧ s.arg0 = s.rxAssembled :=
      fun hyes => by simpa [hyes] using hend
    have hpass : checkOf (.rxStatus e) s = none :=
      (rxStatusCheck_eq_none e s).2 ⟨hunseen, hmono, hbuf, hfinal⟩
    rw [exec_of_accepted hpass, bodyOf, rxStatusBody, rxAssembledReport, rxBufferedReport]

/-! STAMP (R164). -/

/-- The acknowledgment number's sum on natural numbers, taken modulo `2^64` (R160). -/
theorem rxAcknoAbs_eq_ofNat (s : State) :
    rxAcknoAbs s = BitVec.ofNat 64 (s.rxAssembled.toNat + 1 + b2n s.conn.rxEnded) := by
  rw [rxAcknoAbs, BitVec.ofNat_add, BitVec.ofNat_add, BitVec.ofNat_toNat, BitVec.setWidth_eq,
    BitVec.ofNat_eq_ofNat]

/-- On the wire the sum is taken modulo `2^32`, which its reduction modulo `2^64` does not change (R161). -/
theorem wrap_rxAcknoAbs (s : State) :
    wrap (rxAcknoAbs s) s.rxIsn =
      s.rxIsn + BitVec.ofNat 32 (s.rxAssembled.toNat + 1 + b2n s.conn.rxEnded) := by
  rw [wrap, low32_eq_setWidth, rxAcknoAbs_eq_ofNat, BitVec.setWidth_ofNat_of_le (by decide)]

/-- The window is the capacity left, or 0, and its cap fits in 16 bits (R162). -/
theorem setWidth_rxWindow16 (s : State) :
    (rxWindow16 s).setWidth 64 = BitVec.ofNat 64 (min (s.cfgCapacity.toNat - s.rxBuffered.toNat) 65535) := by
  have hcap : min (s.cfgCapacity.toNat - s.rxBuffered.toNat) 65535 < 2 ^ 16 := by omega
  rw [rxWindow16, rxWindowFull, toNat_satSub64, BitVec.setWidth_ofNat_of_le_of_lt (by decide) hcap]

/-- Settles O28: the word is the command's encoding (O1), and STAMP checks nothing; its writes are `stampBody_eq`, with
the acknowledgment number and window once the peer's SYN is seen. -/
theorem stampOutcome : Obligations.StampOutcome := by
  refine ⟨decodeEncodeRoundTrip .stamp, fun s => ⟨fun hno => ?unseen, fun hyes => ?seen⟩⟩
  case unseen =>
    rw [exec_of_noCheck rfl, bodyOf, stampBody_eq]
    simp only [hno, Bool.false_eq_true, if_false, zext64, wrap, low32_eq_setWidth]
  case seen =>
    rw [exec_of_noCheck rfl, bodyOf, stampBody_eq]
    simp only [hyes, if_true, wrap_rxAcknoAbs, setWidth_rxWindow16]
    simp only [zext64, wrap, low32_eq_setWidth]

end Sys2Proof.Machine
end

section
/-! The connection's commands NOP, SEG_RX, SEG_END, TICK, EVAL, CLOSE and INIT (44_connection.md R182-R190): which check
refuses each, and the state an accepted command ends in. -/

namespace Sys2Proof.Machine

/-! The checks that SEG_RX, TICK and EVAL share, in the order of 60_exceptions.md R221. -/

/-- With a segment pending the later checks are not reached. -/
theorem needNoSegment_of_pending {s : State} (h : s.conn.segPend = true) (rest : Option Code) :
    needNoSegment s rest = some .eseq :=
  (needNoSegment_eq_some s .eseq rest).2 (.inl ⟨h, rfl⟩)

theorem needNoSegment_needActive_of_inactive {s : State} (hp : s.conn.segPend = false)
    (ha : s.conn.active = false) (rest : Option Code) :
    needNoSegment s (needActive s rest) = some .einactive :=
  (needNoSegment_eq_some s .einactive _).2 (.inr ⟨hp, needActive_of_inactive ha rest⟩)

/-! NOP (R182). -/

/-- With CODE = OK and no request bit, STATUS shows STATE alone. -/
theorem statusWord_of_ok (s : State) :
    statusWord { s with status := { code := .ok, req := {} } } = (stateTag s).value.setWidth 64 <<< 24 := by
  have hword : statusWord { s with status := { code := .ok, req := {} } } =
      (0 : BitVec 37) ++ (stateTag s).value ++ (0 : BitVec 2) ++ Reqs.bits {} ++ Code.value .ok := rfl
  rw [hword]
  cases stateTag s <;> decide

/-- Settles O29: NOP checks nothing and writes nothing, and STATUS is `statusWord_of_ok`. -/
theorem nopOutcome : Obligations.NopOutcome :=
  ⟨decodeEncodeRoundTrip .nop, fun s => ⟨_, exec_of_noCheck rfl s, rfl, statusWord_of_ok s⟩⟩

/-! SEG_RX (R183). -/

theorem bitAt_getLsbD (f : Bool) {j : Nat} (hj : j < 32) (k : Nat) :
    (bitAt f j).getLsbD k = (decide (j = k) && f) := by
  cases f with
  | false => simp [bitAt]
  | true =>
    rw [bitAt, if_pos rfl, BitVec.getLsbD_ofNat, Nat.testBit_two_pow, Bool.and_true, Bool.and_eq_right_iff_imp]
    intro hk
    exact decide_eq_true (of_decide_eq_true hk ▸ hj)

/-- SEG_RX's word (30_encoding.md R85): the window in IMM16, and the letters A, R, F and S in bits 11 to 8. -/
theorem encode_segRx (syn fin rst ack : Bool) (win : U16) :
    encode (.segRx syn fin rst ack win) =
      win.setWidth 32 <<< 16 ||| bitAt ack 11 ||| bitAt rst 10 ||| bitAt fin 9 ||| bitAt syn 8 ||| 0x20 := by
  have hop : ∀ k < 32, (0x20 : U32).getLsbD k = if k < 8 then (0x20 : BitVec 8).getLsbD k else false := by decide
  apply BitVec.eq_of_getLsbD_eq
  intro k hk
  rw [encode_segRx_getLsbD]
  simp only [BitVec.getLsbD_or, bitAt_getLsbD, hop k hk, BitVec.getLsbD_shiftLeft, BitVec.getLsbD_setWidth,
    Nat.reduceLT]
  interval_cases k <;> simp

/-- The length in sequence space, on the bits of ARG1 that SEG_RX reads (30_encoding.md R83, 40_seqspace.md R102). -/
theorem seglen_segPayloadLen (syn fin : Bool) (s : State) :
    seglen syn (segPayloadLen s) fin = BitVec.ofNat 64 (b2n syn + s.arg1.toNat % 2 ^ 32 + b2n fin) := by
  rw [seglen, segPayloadLen, low32_eq_setWidth, BitVec.toNat_setWidth]

theorem and_ackAcceptable_eq (ack : Bool) (s : State) :
    (ack && ackAcceptable (segAckno s) s) =
      (ack && decide (s.txAcked.toNat ≤ (ackAbs (segAckno s) s).toNat) &&
        decide ((ackAbs (segAckno s) s).toNat ≤ s.txNext.toNat)) := by
  rw [ackAcceptable, Bool.and_assoc]

/-- Settles O30: the word is the command's encoding (O1); the checks give ESEQ or EINACTIVE, or pass, and then the
writes are those of an RST, of a discarded segment or of a processed one. -/
theorem segRxOutcome : Obligations.SegRxOutcome := by
  refine ⟨fun syn fin rst ack win =>
      encode_segRx syn fin rst ack win ▸ decodeEncodeRoundTrip (.segRx syn fin rst ack win),
    fun syn fin rst ack win s => ⟨fun hp => ?pending, fun hp ha => ?inactive, fun hp ha hr => ?reset,
      fun hp ha hr hno hs => ?discarded, fun hp ha hr hseen => ?processed⟩⟩
  case pending => exact exec_of_refused (needNoSegment_of_pending hp _)
  case inactive => exact exec_of_refused (needNoSegment_needActive_of_inactive hp ha _)
  all_goals
    have hpass : checkOf (.segRx syn fin rst ack win) s = none := (segRxCheck_eq_none s).2 ⟨hp, ha⟩
    rw [exec_of_accepted hpass, bodyOf]
    subst hr
  case reset => rw [segRxBody_of_rst]
  case discarded =>
    subst hs
    rw [segRxBody_of_discard fin ack win hno]
  case processed =>
    rw [segRxBody_of_processed syn fin ack win hseen, seglen_segPayloadLen, and_ackAcceptable_eq]
    rfl

/-! SEG_END (R184-R186). -/

/-- Settles O31: the word is the command's encoding (O1), a pending segment is the only check, and the writes are
`segEndBody_eq` with the keep-alive test on the expected number written out. -/
theorem segEndOutcome : Obligations.SegEndOutcome := by
  refine ⟨decodeEncodeRoundTrip .segEnd, fun s => ⟨fun hp => ?idle, fun hp => ?accepted⟩⟩
  case idle => exact exec_of_refused ((failIf_eq_some _ _ _ _).2 (.inl ⟨by rw [hp]; rfl, rfl⟩))
  case accepted =>
    have hpass : checkOf .segEnd s = none := (segEndCheck_eq_none s).2 hp
    have hprobe := keepaliveProbe_eq s
    rw [wrap_rxAcknoAbs, ← Bool.and_assoc] at hprobe
    rw [exec_of_accepted hpass, bodyOf, segEndBody_eq, hprobe, ackOwed]

/-! TICK (R187). -/

/-- Settles O32: the word is the command's encoding (O1); the checks give ESEQ or EINACTIVE, or pass, and then the
writes are `tickBody_flat`, past the retransmission limit or within it. -/
theorem tickOutcome : Obligations.TickOutcome := by
  refine ⟨decodeEncodeRoundTrip .tick, fun s => ⟨fun hp => ?pending, fun hp ha => ?inactive, fun hp ha => ?accepted⟩⟩
  case pending => exact exec_of_refused (needNoSegment_of_pending hp _)
  case inactive => exact exec_of_refused (needNoSegment_needActive_of_inactive hp ha _)
  case accepted =>
    intro sinceRx elapsed fired resend counts count rto running closes
    have hpass : checkOf .tick s = none := (tickCheck_eq_none s).2 ⟨hp, ha⟩
    rw [exec_of_accepted hpass, bodyOf, tickBody_flat]
    by_cases hpast : s.cfgMaxRetx.toNat < count.toNat
    · have hpast' := decide_eq_true hpast
      rw [if_pos hpast]
      simp only [count, counts, resend, fired, elapsed] at hpast'
      simp only [hpast', Bool.not_true, Bool.and_false, Bool.false_and, Bool.or_true, Bool.true_or, if_true]
      rfl
    · have hwithin := decide_eq_false hpast
      rw [if_neg hpast]
      simp only [count, counts, resend, fired, elapsed] at hwithin
      simp only [hwithin, ha, Bool.not_false, Bool.and_true, Bool.true_and, Bool.or_false, Bool.false_or,
        Bool.false_eq_true, if_false]
      rfl

/-! EVAL (R188). -/

/-- Settles O33: the word is the command's encoding (O1); the checks give ESEQ or EINACTIVE, or pass, and then the
writes are `evalBody_eq`. -/
theorem evalOutcome : Obligations.EvalOutcome := by
  refine ⟨decodeEncodeRoundTrip .eval, fun s => ⟨fun hp => ?pending, fun hp ha => ?inactive, fun hp ha => ?accepted⟩⟩
  case pending => exact exec_of_refused (needNoSegment_of_pending hp _)
  case inactive => exact exec_of_refused (needNoSegment_needActive_of_inactive hp ha _)
  case accepted =>
    have hpass : checkOf .eval s = none := (evalCheck_eq_none s).2 ⟨hp, ha⟩
    rw [exec_of_accepted hpass, bodyOf, evalBody_eq, shutdownDue_eq, ha, Bool.true_and]

/-! CLOSE (R189). -/

/-- Settles O34: the word is the command's encoding (O1); CLOSE checks nothing, and writes on a live connection only. -/
theorem closeOutcome : Obligations.CloseOutcome := by
  refine ⟨decodeEncodeRoundTrip .close, fun s => ⟨fun ha => ?live, fun ha => ?inactive⟩⟩
  case live => rw [exec_of_noCheck rfl, bodyOf, closeBody_of_active ha]
  case inactive => rw [exec_of_noCheck rfl, bodyOf, closeBody_of_inactive ha]

/-! INIT (R190). -/

/-- Settles O35: the word is the command's encoding (O1), and the connection being inactive is the only check. -/
theorem initOutcome : Obligations.InitOutcome := by
  refine ⟨decodeEncodeRoundTrip .init, fun s => ⟨fun ha => ?live, fun ha => ?accepted⟩⟩
  case live => exact exec_of_refused ((failIf_eq_some _ _ _ _).2 (.inl ⟨ha, rfl⟩))
  case accepted =>
    have hpass : checkOf .init s = none := (initCheck_eq_none s).2 ha
    rw [exec_of_accepted hpass, bodyOf, initBody, Conn.fresh, zext64]

end Sys2Proof.Machine
end

section
/-! The state tag (44_connection.md R181) by the flags that give it: what a proof about transitions reads off a tag and
shows for one. -/

namespace Sys2Proof.Machine

theorem bothFinished_iff (s : State) :
    bothFinished s = true ↔ s.conn.rxEnded = true ∧ s.conn.txFinSent = true ∧ s.txAcked = s.txNext := by
  simp only [bothFinished, Bool.and_eq_true, beq_iff_eq, and_assoc]

/-- A live connection on which neither stream is at its end: no FIN sent, the peer's stream not ended. -/
structure StreamsOpen (s : State) : Prop where
  active : s.conn.active = true
  finUnsent : s.conn.txFinSent = false
  notEnded : s.conn.rxEnded = false

/-- The tag of a connection with open streams: how far the exchange of SYNs has come. -/
def handshakeTag (s : State) : Tag :=
  if s.conn.rxSynSeen = true ∧ s.conn.txSynSent = true ∧ 1 ≤ s.txAcked.toNat then .established
  else if s.conn.rxSynSeen = true then .synRcvd
  else if s.conn.txSynSent = true then .synSent
  else .listen

theorem stateTag_of_inactive {s : State} (h : s.conn.active = false) :
    stateTag s = if s.conn.err then .reset else .closed := by
  rw [stateTag, if_pos h]

theorem stateTag_of_cleanEnd {s : State} (ha : s.conn.active = false) (he : s.conn.err = false) :
    stateTag s = .closed := by
  rw [stateTag_of_inactive ha, he]; rfl

theorem stateTag_of_uncleanEnd {s : State} (ha : s.conn.active = false) (he : s.conn.err = true) :
    stateTag s = .reset := by
  rw [stateTag_of_inactive ha, he]; rfl

theorem stateTag_of_open {s : State} (h : StreamsOpen s) : stateTag s = handshakeTag s := by
  simp [stateTag, handshakeTag, bothFinished, h.active, h.finUnsent, h.notEnded, and_assoc]

theorem stateTag_eq_linger_iff (s : State) :
    stateTag s = .linger ↔ s.conn.active = true ∧ bothFinished s = true := by
  unfold stateTag
  split_ifs <;> simp_all

theorem stateTag_eq_finWait_iff (s : State) :
    stateTag s = .finWait ↔
      s.conn.active = true ∧ bothFinished s = false ∧ (s.conn.txFinSent = true ∨ s.conn.rxEnded = true) := by
  unfold stateTag
  split_ifs <;> simp_all

/-- Only CLOSED and RESET are tags of an inactive connection. -/
theorem inactive_of_stateTag {s : State} (h : stateTag s = .closed ∨ stateTag s = .reset) :
    s.conn.active = false := by
  unfold stateTag at h
  split_ifs at h <;> simp_all

/-- The four tags before a FIN are tags of open streams only. -/
theorem open_of_stateTag {s : State} (h : stateTag s ∈ [Tag.listen, .synSent, .synRcvd, .established]) :
    StreamsOpen s := by
  unfold stateTag at h
  split_ifs at h with ha herr hb hf <;> simp at h
  all_goals
    obtain ⟨hfin, hend⟩ : s.conn.txFinSent = false ∧ s.conn.rxEnded = false := by simpa using hf
    exact ⟨by simpa using ha, hfin, hend⟩

theorem stateTag_eq_iff_handshakeTag {g : Tag} (hg : g ∈ [Tag.listen, .synSent, .synRcvd, .established])
    (s : State) : stateTag s = g ↔ StreamsOpen s ∧ handshakeTag s = g := by
  constructor
  · rintro rfl
    have ho := open_of_stateTag hg
    exact ⟨ho, (stateTag_of_open ho).symm⟩
  · rintro ⟨ho, rfl⟩
    exact stateTag_of_open ho

theorem stateTag_eq_listen_iff (s : State) :
    stateTag s = .listen ↔ StreamsOpen s ∧ s.conn.rxSynSeen = false ∧ s.conn.txSynSent = false := by
  rw [stateTag_eq_iff_handshakeTag (by decide), handshakeTag]
  split_ifs <;> simp_all

theorem stateTag_eq_synSent_iff (s : State) :
    stateTag s = .synSent ↔ StreamsOpen s ∧ s.conn.rxSynSeen = false ∧ s.conn.txSynSent = true := by
  rw [stateTag_eq_iff_handshakeTag (by decide), handshakeTag]
  split_ifs <;> simp_all

theorem stateTag_eq_synRcvd_iff (s : State) :
    stateTag s = .synRcvd ↔
      StreamsOpen s ∧ s.conn.rxSynSeen = true ∧ (s.conn.txSynSent = true → s.txAcked.toNat = 0) := by
  rw [stateTag_eq_iff_handshakeTag (by decide), handshakeTag]
  split_ifs <;> simp_all
  omega

theorem stateTag_eq_established_iff (s : State) :
    stateTag s = .established ↔
      StreamsOpen s ∧ s.conn.rxSynSeen = true ∧ s.conn.txSynSent = true ∧ 1 ≤ s.txAcked.toNat := by
  rw [stateTag_eq_iff_handshakeTag (by decide), handshakeTag]
  split_ifs <;> simp_all

/-- Settles O17: CONN and STATUS show STATE by their words' laws, and each line of `state_tag` by the tag's law. -/
theorem stateTagOfFlags : Obligations.StateTagOfFlags := by
  refine ⟨by decide, fun s => ⟨connWord_state s, statusWord_state s, stateTag_of_inactive, fun ha =>
    ⟨fun hend hfin hacked => ?linger, fun hone hnot => ?finWait, fun hfin hend => stateTag_of_open ⟨ha, hfin, hend⟩⟩⟩⟩
  case linger => exact (stateTag_eq_linger_iff s).2 ⟨ha, (bothFinished_iff s).2 ⟨hend, hfin, hacked⟩⟩
  case finWait =>
    have hb : bothFinished s = false := by rwa [← Bool.not_eq_true, bothFinished_iff]
    exact (stateTag_eq_finWait_iff s).2 ⟨ha, hb, hone⟩

end Sys2Proof.Machine
end

section
/-! The transitions of the state tag (44_connection.md R192), each from the effects of the command that makes it; and
what no command does: accept an acknowledgment before the peer's SYN. -/

namespace Sys2Proof.Machine

/-- A refusal names a code other than OK. -/
theorem refused_code_ne_ok {i : Instr} {s : State} {c : Code} (h : checkOf i s = some c) : c ≠ .ok := by
  rintro rfl
  cases i <;>
    simp [checkOf, txSentCheck, txRetireCheck, txEofCheck, rxStatusCheck, segRxCheck, segEndCheck, tickCheck,
      evalCheck, initCheck] at h

theorem exec_keeps_synBeforeAck {i : Instr} {s t : State} (hs : SynBeforeAck s) (h : exec i s = .next t) :
    SynBeforeAck t := by
  cases effect_of_exec h with
  | segRxProcessed => exact nofun
  | init => exact fun _ => rfl
  | _ => exact hs

theorem SameConnection.synBeforeAck {s t : State} (h : SameConnection s t) (hs : SynBeforeAck s) :
    SynBeforeAck t := by
  rw [h]
  exact hs

/-- Settles O47: of the commands that write TX_ACKED, SEG_RX sets RX_SYN_SEEN and INIT writes 0. -/
theorem everyStepKeepsSynBeforeAck : Obligations.EveryStepKeepsSynBeforeAck := by
  intro s t hs h
  obtain ⟨hsame, -⟩ | ⟨v, i, rest, -, -, he⟩ := step_cases h
  · exact hsame.synBeforeAck hs
  · exact exec_keeps_synBeforeAck ((SameConnection.popped s rest).synBeforeAck hs) he

/-! The clean-shutdown check (R180) and the two ends of the streams. -/

theorem closesCleanly_eq (s : State) (linger : Bool) (sinceRx : Nat) :
    closesCleanly s linger sinceRx =
      (s.conn.active && bothFinished s && (!linger || decide (10 * s.cfgRtoInit.toNat ≤ sinceRx))) := by
  simp only [closesCleanly, bothFinished, Bool.and_assoc]

theorem closesCleanly_of_unfinished {s : State} (h : bothFinished s = false) (linger : Bool) (sinceRx : Nat) :
    closesCleanly s linger sinceRx = false := by
  simp [closesCleanly_eq, h]

theorem bothFinished_of_open {s : State} (h : StreamsOpen s) : bothFinished s = false := by
  simp [bothFinished, h.finUnsent]

/-! Opening. -/

theorem synSent_of_txSent {s t : State} (hs : stateTag s = .listen) (h : exec (.txSent true false) s = .next t)
    (hok : t.status.code = .ok) : stateTag t = .synSent := by
  obtain ⟨ho, hseen, -⟩ := (stateTag_eq_listen_iff s).1 hs
  cases effect_of_exec h with
  | refused c hc => exact absurd hok (refused_code_ne_ok hc)
  | txSent =>
    have hfin : (s.conn.txFinSent || false) = false := (Bool.or_false _).trans ho.finUnsent
    exact (stateTag_eq_synSent_iff _).2 ⟨⟨ho.active, hfin, ho.notEnded⟩, hseen, Bool.or_true _⟩

theorem synRcvd_of_segRx_listen {s t : State} {fin ack : Bool} {win : U16} (hs : stateTag s = .listen)
    (h : exec (.segRx true fin false ack win) s = .next t) (hok : t.status.code = .ok) :
    stateTag t = .synRcvd ∧ t.status.req.connectReq = true := by
  obtain ⟨ho, -, hsent⟩ := (stateTag_eq_listen_iff s).1 hs
  cases effect_of_exec h with
  | refused c hc => exact absurd hok (refused_code_ne_ok hc)
  | segRxProcessed =>
    have hunsent : s.conn.txSynSent ≠ true := Bool.eq_false_iff.1 hsent
    refine ⟨(stateTag_eq_synRcvd_iff _).2 ⟨⟨ho.active, ho.finUnsent, ho.notEnded⟩, rfl, fun hyes => ?_⟩, ?_⟩
    · exact absurd hyes hunsent
    · simp [hsent]

theorem synRcvd_of_segRx_synSent {s t : State} {fin ack : Bool} {win : U16} (hack : SynBeforeAck s)
    (hs : stateTag s = .synSent) (h : exec (.segRx true fin false ack win) s = .next t) (hok : t.status.code = .ok)
    (hackv : t.status.req.ackv = false) : stateTag t = .synRcvd := by
  obtain ⟨ho, hseen, -⟩ := (stateTag_eq_synSent_iff s).1 hs
  cases effect_of_exec h with
  | refused c hc => exact absurd hok (refused_code_ne_ok hc)
  | @segRxProcessed _ _ _ _ _ _ _ accepted =>
    obtain rfl : accepted = false := hackv
    have hacked : s.txAcked.toNat = 0 := by rw [hack hseen]; rfl
    exact (stateTag_eq_synRcvd_iff _).2 ⟨⟨ho.active, ho.finUnsent, ho.notEnded⟩, rfl, fun _ => hacked⟩

/-- The own SYN is sent and neither stream is at its end, whether or not the connection lives. -/
structure OwnSynSent (s : State) : Prop where
  sent : s.conn.txSynSent = true
  finUnsent : s.conn.txFinSent = false
  notEnded : s.conn.rxEnded = false

theorem ownSynSent_of_txSent {s t : State} (ho : StreamsOpen s) (h : exec (.txSent true false) s = .next t)
    (hok : t.status.code = .ok) : OwnSynSent t := by
  cases effect_of_exec h with
  | refused c hc => exact absurd hok (refused_code_ne_ok hc)
  | txSent => exact ⟨Bool.or_true _, (Bool.or_false _).trans ho.finUnsent, ho.notEnded⟩

theorem OwnSynSent.stamp {s t : State} (hs : OwnSynSent s) (h : exec .stamp s = .next t) : OwnSynSent t := by
  cases effect_of_exec h <;> exact { hs with }

theorem OwnSynSent.segEnd {s t : State} (hs : OwnSynSent s) (h : exec .segEnd s = .next t) : OwnSynSent t := by
  cases effect_of_exec h <;> exact { hs with }

/-- An accepted acknowledgment of the own SYN, in a segment that is not discarded, ends the handshake. -/
theorem OwnSynSent.established_of_segRx {s t : State} {syn fin : Bool} {win : U16} (hs : OwnSynSent s)
    (h : exec (.segRx syn fin false true win) s = .next t) (hok : t.status.code = .ok)
    (hackv : t.status.req.ackv = true) (hacked : 1 ≤ t.txAcked.toNat) : stateTag t = .established := by
  cases effect_of_exec h with
  | refused c hc => exact absurd hok (refused_code_ne_ok hc)
  | segRxDiscarded => cases hackv
  | segRxProcessed hp ha =>
    exact (stateTag_eq_established_iff _).2 ⟨⟨ha, hs.finUnsent, hs.notEnded⟩, rfl, hs.sent, hacked⟩

theorem synRcvd_of_txSent {s t : State} (hi : Inv s) (hs : stateTag s = .synRcvd)
    (h : exec (.txSent true false) s = .next t) (hok : t.status.code = .ok) :
    stateTag t = .synRcvd ∧ t.conn.txSynSent = true ∧ t.conn.segPend = s.conn.segPend := by
  obtain ⟨ho, hseen, -⟩ := (stateTag_eq_synRcvd_iff s).1 hs
  cases effect_of_exec h with
  | refused c hc => exact absurd hok (refused_code_ne_ok hc)
  | txSent hlen ha hpos hfin hsyn hfit =>
    have hunsent : s.conn.txSynSent = false := by simpa using hsyn
    have hacked : s.txAcked.toNat = 0 := by
      have hle := hi.ackedLeNext
      rw [hi.nextZeroIffNoSyn.2 hunsent] at hle
      exact Nat.le_zero.1 hle
    have hfin' : (s.conn.txFinSent || false) = false := (Bool.or_false _).trans hfin
    exact ⟨(stateTag_eq_synRcvd_iff _).2 ⟨⟨ha, hfin', ho.notEnded⟩, hseen, fun _ => hacked⟩, Bool.or_true _, rfl⟩

/-- SYN_RCVD is left by SEG_RX, TX_SENT, TICK, CLOSE and RX_STATUS.E only. -/
theorem synRcvd_kept {i : Instr} {s t : State} (hs : stateTag s = .synRcvd)
    (hm : i.mnemonic ∉ [Mnemonic.segRx, .txSent, .tick, .close]) (hend : i ≠ .rxStatus true)
    (h : exec i s = .next t) : stateTag t = .synRcvd ∧ t.conn.txSynSent = s.conn.txSynSent := by
  obtain ⟨ho, hseen, hacked⟩ := (stateTag_eq_synRcvd_iff s).1 hs
  cases effect_of_exec h with
  | refused | nop | wrap | unwrap | seglen | tmrStart | tmrStop | tmrReset | tmrDouble | tmrTick | tmrQuery | txRetire
  | txEof | stamp => exact ⟨hs, rfl⟩
  | segRxReset | segRxDiscarded | segRxProcessed | txSent | tick | closeActive | closeInactive =>
    exact absurd (by simp [Instr.mnemonic]) hm
  | segEnd hp hcl =>
    rw [closesCleanly_of_unfinished (bothFinished_of_open ho)] at hcl
    have ha : (s.conn.active && !false) = true := (Bool.and_true _).trans ho.active
    subst hcl
    exact ⟨(stateTag_eq_synRcvd_iff _).2 ⟨⟨ha, ho.finUnsent, ho.notEnded⟩, hseen, hacked⟩, rfl⟩
  | @rxStatus _ ended =>
    obtain rfl : ended = false := by simpa using hend
    have hend' : (s.conn.rxEnded || false) = false := (Bool.or_false _).trans ho.notEnded
    exact ⟨(stateTag_eq_synRcvd_iff _).2 ⟨⟨ho.active, ho.finUnsent, hend'⟩, hseen, hacked⟩, rfl⟩
  | eval hp ha =>
    have ha' : (s.conn.active && !shutdownDue s) = true := by
      rw [shutdownDue_eq, closesCleanly_of_unfinished (bothFinished_of_open ho), ha]; rfl
    exact ⟨(stateTag_eq_synRcvd_iff _).2 ⟨⟨ha', ho.finUnsent, ho.notEnded⟩, hseen, hacked⟩, rfl⟩
  | init ha => cases ha.symm.trans ho.active

/-- Settles O43: each row is the lemma of its command; the two ways to ESTABLISHED, and the whole order of commands,
meet in `OwnSynSent.established_of_segRx`. -/
theorem openingTransitions : Obligations.OpeningTransitions := by
  refine ⟨fun s t => synSent_of_txSent, fun s t fin ack win => synRcvd_of_segRx_listen,
    fun s t fin win hs => ?synSent, fun s t fin ack win => synRcvd_of_segRx_synSent,
    fun s t => synRcvd_of_txSent, fun i s t => synRcvd_kept, fun s t syn fin win hs hsent => ?synRcvd,
    fun s t u syn fin win hs h hok a0 a1 v w hv hw hu => ?sequence⟩
  case synSent =>
    obtain ⟨ho, -, hsent⟩ := (stateTag_eq_synSent_iff s).1 hs
    exact (OwnSynSent.mk hsent ho.finUnsent ho.notEnded).established_of_segRx
  case synRcvd =>
    obtain ⟨ho, -⟩ := (stateTag_eq_synRcvd_iff s).1 hs
    exact (OwnSynSent.mk hsent ho.finUnsent ho.notEnded).established_of_segRx
  case sequence =>
    obtain ⟨ho, -⟩ := (stateTag_eq_synRcvd_iff s).1 hs
    have hsw : OwnSynSent w := ((ownSynSent_of_txSent ho h hok).stamp hv).segEnd hw
    have hargs : OwnSynSent { w with arg0 := a0, arg1 := a1 } := { hsw with }
    exact hargs.established_of_segRx hu

end Sys2Proof.Machine
end

section
/-! The closing transitions of the state tag (44_connection.md R192): FIN_WAIT, LINGER, CLOSED, RESET and LISTEN again,
each from the effects of the command that makes it. -/

namespace Sys2Proof.Machine

/-! From ESTABLISHED to FIN_WAIT. -/

theorem finWait_of_txSent_fin {s t : State} (hs : stateTag s = .established)
    (h : exec (.txSent false true) s = .next t) (hok : t.status.code = .ok) : stateTag t = .finWait := by
  obtain ⟨ho, -⟩ := (stateTag_eq_established_iff s).1 hs
  cases effect_of_exec h with
  | refused c hc => exact absurd hok (refused_code_ne_ok hc)
  | txSent =>
    exact (stateTag_eq_finWait_iff _).2 ⟨ho.active, by simp [bothFinished, ho.notEnded], .inl (Bool.or_true _)⟩

theorem finWait_of_rxStatus_ended {s t : State} (hs : stateTag s = .established)
    (h : exec (.rxStatus true) s = .next t) (hok : t.status.code = .ok) : stateTag t = .finWait := by
  obtain ⟨ho, -⟩ := (stateTag_eq_established_iff s).1 hs
  cases effect_of_exec h with
  | refused c hc => exact absurd hok (refused_code_ne_ok hc)
  | rxStatus =>
    exact (stateTag_eq_finWait_iff _).2 ⟨ho.active, by simp [bothFinished, ho.finUnsent], .inr (Bool.or_true _)⟩

/-! From FIN_WAIT to LINGER. -/

theorem linger_of_rxStatus_ended {s t : State} (hs : stateTag s = .finWait) (hfin : s.conn.txFinSent = true)
    (hacked : s.txAcked = s.txNext) (h : exec (.rxStatus true) s = .next t) (hok : t.status.code = .ok) :
    stateTag t = .linger := by
  obtain ⟨ha, -⟩ := (stateTag_eq_finWait_iff s).1 hs
  cases effect_of_exec h with
  | refused c hc => exact absurd hok (refused_code_ne_ok hc)
  | rxStatus => exact (stateTag_eq_linger_iff _).2 ⟨ha, (bothFinished_iff _).2 ⟨Bool.or_true _, hfin, hacked⟩⟩

/-- The acknowledgment number of TX_NEXT is read as TX_NEXT. -/
theorem ackAbs_wrap_txNext (s : State) : ackAbs (wrap s.txNext s.cfgTxIsn) s = s.txNext :=
  unwrap_wrap s.txNext s.txNext s.cfgTxIsn (by simp)

theorem linger_of_segRx_acks_all {s t : State} {syn fin : Bool} {win : U16} (hi : Inv s)
    (hfin : s.conn.txFinSent = true) (hend : s.conn.rxEnded = true)
    (hack : segAckno s = wrap s.txNext s.cfgTxIsn) (h : exec (.segRx syn fin false true win) s = .next t)
    (hok : t.status.code = .ok) :
    stateTag t = .linger ∧ t.status.req.ackv = true ∧ t.txAcked = s.txNext := by
  cases effect_of_exec h with
  | refused c hc => exact absurd hok (refused_code_ne_ok hc)
  | segRxDiscarded hp ha hseen =>
    obtain ⟨-, -, hopen⟩ := hi.noSynNoStream hseen
    cases hopen.symm.trans hend
  | @segRxProcessed _ _ _ _ _ _ _ accepted hp ha hseen hisn habs hacc =>
    have hnext : ackAbs (segAckno s) s = s.txNext := by rw [hack, ackAbs_wrap_txNext]
    have hacceptable : ackAcceptable (segAckno s) s = true := by
      rw [ackAcceptable_iff, hnext]
      exact ⟨hi.ackedLeNext, Nat.le_refl _⟩
    obtain rfl : accepted = true := by rw [hacc, hacceptable]; rfl
    exact ⟨(stateTag_eq_linger_iff _).2 ⟨ha, (bothFinished_iff _).2 ⟨hend, hfin, hnext⟩⟩, rfl, hnext⟩

/-- What TX_SENT sends is not acknowledged yet. -/
theorem finWait_of_txSent {s t : State} {syn fin : Bool} (hi : Inv s) (hs : stateTag s = .finWait)
    (h : exec (.txSent syn fin) s = .next t) (hok : t.status.code = .ok) : stateTag t = .finWait := by
  obtain ⟨ha, -, hone⟩ := (stateTag_eq_finWait_iff s).1 hs
  cases effect_of_exec h with
  | refused c hc => exact absurd hok (refused_code_ne_ok hc)
  | @txSent _ _ _ len hlen _ hpos _ _ hfit =>
    have hunacked : s.txAcked ≠ s.txNext + len := by
      intro he
      have hle := hi.ackedLeNext
      rw [he, toNat_add_of_fits hfit] at hle
      omega
    refine (stateTag_eq_finWait_iff _).2 ⟨ha, ?_, hone.imp_left fun hf => by simp [hf]⟩
    rw [← Bool.not_eq_true, bothFinished_iff]
    exact fun ⟨_, _, hacked⟩ => hunacked hacked

theorem segRx_or_rxStatus_of_linger {i : Instr} {s t : State} (hi : Inv s) (hs : stateTag s = .finWait)
    (h : exec i s = .next t) (ht : stateTag t = .linger) :
    (∃ syn fin win, i = .segRx syn fin false true win) ∨ i = .rxStatus true := by
  obtain ⟨-, hb, -⟩ := (stateTag_eq_finWait_iff s).1 hs
  obtain ⟨-, hbt⟩ := (stateTag_eq_linger_iff t).1 ht
  have hnot : bothFinished s ≠ true := Bool.eq_false_iff.1 hb
  cases effect_of_exec h with
  | refused | nop | wrap | unwrap | seglen | tmrStart | tmrStop | tmrReset | tmrDouble | tmrTick | tmrQuery
  | segRxReset | segRxDiscarded | segEnd | txRetire | txEof | tick | eval | closeActive | closeInactive | stamp =>
    exact absurd hbt hnot
  | @segRxProcessed _ syn fin ack win _ _ accepted hp ha hseen hisn habs hacc =>
    cases ack with
    | true => exact .inl ⟨syn, fin, win, rfl⟩
    | false =>
      obtain rfl : accepted = false := hacc
      exact absurd hbt hnot
  | @rxStatus _ ended =>
    cases ended with
    | true => exact .inr rfl
    | false =>
      obtain ⟨hend, hfin, hacked⟩ := (bothFinished_iff _).1 hbt
      have hend' : s.conn.rxEnded = true := (Bool.or_false _).symm.trans hend
      exact absurd ((bothFinished_iff s).2 ⟨hend', hfin, hacked⟩) hnot
  | txSent => cases (finWait_of_txSent hi hs h rfl).symm.trans ht
  | init => cases hbt

/-! From LINGER to CLOSED. -/

theorem closesCleanly_of_linger {s : State} (hs : stateTag s = .linger) {linger : Bool} {sinceRx : Nat}
    (hdue : linger = false ∨ 10 * s.cfgRtoInit.toNat ≤ sinceRx) : closesCleanly s linger sinceRx = true := by
  obtain ⟨ha, hb⟩ := (stateTag_eq_linger_iff s).1 hs
  rw [closesCleanly_eq, ha, hb]
  obtain rfl | hle := hdue
  · rfl
  · simp [hle]

/-- On a connection that lives the error flag is clear, so its clean end is CLOSED. -/
theorem noErr_of_linger {s : State} (hi : Inv s) (hs : stateTag s = .linger) : s.conn.err = false := by
  obtain ⟨ha, -⟩ := (stateTag_eq_linger_iff s).1 hs
  exact Bool.eq_false_iff.2 fun herr => by cases (hi.errNotActive herr).symm.trans ha

theorem closed_of_tick {s t : State} (hi : Inv s) (hs : stateTag s = .linger)
    (hdue : s.conn.linger = false ∨ 10 * s.cfgRtoInit.toNat ≤ (satAdd64 s.timeSinceRx s.arg0).toNat)
    (h : exec .tick s = .next t) (hwithin : t.retxCount.toNat ≤ s.cfgMaxRetx.toNat) (hok : t.status.code = .ok) :
    stateTag t = .closed ∧ t.status.req.closedNow = true := by
  have herr := noErr_of_linger hi hs
  cases effect_of_exec h with
  | refused c hc => exact absurd hok (refused_code_ne_ok hc)
  | tick =>
    have hcl : tickCloses s = true := closesCleanly_of_linger hs hdue
    have hpass : tickPasses s = false := decide_eq_false (Nat.not_lt.2 hwithin)
    exact ⟨stateTag_of_cleanEnd (by simp [hcl]) (by simp [hpass, herr]), by simp [hcl]⟩

theorem closed_of_segEnd {s t : State} (hi : Inv s) (hs : stateTag s = .linger) (hl : s.conn.linger = false)
    (h : exec .segEnd s = .next t) (hok : t.status.code = .ok) :
    stateTag t = .closed ∧ t.status.req.closedNow = true := by
  have herr := noErr_of_linger hi hs
  cases effect_of_exec h with
  | refused c hc => exact absurd hok (refused_code_ne_ok hc)
  | segEnd hp hcl =>
    rw [closesCleanly_of_linger hs (.inl (by simp [lingerAfter, hl]))] at hcl
    subst hcl
    exact ⟨stateTag_of_cleanEnd (Bool.and_false _) herr, rfl⟩

theorem closed_of_eval {s t : State} (hi : Inv s) (hs : stateTag s = .linger) (hl : s.conn.linger = false)
    (h : exec .eval s = .next t) (hok : t.status.code = .ok) :
    stateTag t = .closed ∧ t.status.req.closedNow = true := by
  have herr := noErr_of_linger hi hs
  cases effect_of_exec h with
  | refused c hc => exact absurd hok (refused_code_ne_ok hc)
  | eval =>
    have hcl : shutdownDue s = true := by rw [shutdownDue_eq, closesCleanly_of_linger hs (.inl hl)]
    exact ⟨stateTag_of_cleanEnd (by simp [hcl]) herr, hcl⟩

/-! To RESET. -/

theorem reset_of_segRx_rst {s t : State} {syn fin ack : Bool} {win : U16}
    (h : exec (.segRx syn fin true ack win) s = .next t) (hok : t.status.code = .ok) : stateTag t = .reset := by
  cases effect_of_exec h with
  | refused c hc => exact absurd hok (refused_code_ne_ok hc)
  | segRxReset => exact stateTag_of_uncleanEnd rfl rfl

theorem reset_of_tick {s t : State} (h : exec .tick s = .next t) (hok : t.status.code = .ok)
    (hpast : s.cfgMaxRetx.toNat < t.retxCount.toNat) : stateTag t = .reset := by
  cases effect_of_exec h with
  | refused c hc => exact absurd hok (refused_code_ne_ok hc)
  | tick =>
    have hpass : tickPasses s = true := decide_eq_true hpast
    exact stateTag_of_uncleanEnd (by simp [hpass]) (by simp [hpass])

theorem reset_of_close {s t : State} (ha : s.conn.active = true) (h : exec .close s = .next t) :
    stateTag t = .reset := by
  cases effect_of_exec h with
  | refused c hc => cases hc
  | closeActive => exact stateTag_of_uncleanEnd rfl rfl
  | closeInactive hno => cases hno.symm.trans ha

/-! LISTEN again. -/

theorem listen_of_init {s t : State} (ha : s.conn.active = false) (h : exec .init s = .next t) :
    stateTag t = .listen := by
  cases effect_of_exec h with
  | refused c hc => cases ((initCheck_eq_none s).2 ha).symm.trans hc
  | init => exact (stateTag_eq_listen_iff _).2 ⟨⟨rfl, rfl, rfl⟩, rfl, rfl⟩

/-- Settles O44: each row is the lemma of its command; the clean close from LINGER is one for each of SEG_END, TICK and
EVAL. -/
theorem closingTransitions : Obligations.ClosingTransitions := by
  refine ⟨fun s t => finWait_of_txSent_fin, fun s t => finWait_of_rxStatus_ended,
    fun s t => linger_of_rxStatus_ended, fun s t syn fin win hi _ => linger_of_segRx_acks_all hi,
    fun s t syn fin => finWait_of_txSent, fun i s t => segRx_or_rxStatus_of_linger,
    fun i s t hm hi hs hl h hwithin hok => ?clean, fun s t hi hs hle h hwithin hok => ?lingered,
    fun s t syn fin ack win _ => reset_of_segRx_rst, fun s t => reset_of_tick, fun s t => reset_of_close,
    fun s t hs => listen_of_init (inactive_of_stateTag hs)⟩
  case clean =>
    cases i <;> simp [Instr.mnemonic] at hm
    case segEnd => exact closed_of_segEnd hi hs hl h hok
    case tick => exact closed_of_tick hi hs (.inl hl) h (hwithin rfl) hok
    case eval => exact closed_of_eval hi hs hl h hok
  case lingered => exact (closed_of_tick hi hs (.inr hle) h hwithin hok).1

end Sys2Proof.Machine
end

section
/-! Unanswered data (44_connection.md R187 with 10_state.md R44 and R45): expiry after expiry, to the retransmission
limit and past it. -/

namespace Sys2Proof.Machine

/-- A live connection that waits on its running timer for an acknowledgment of outstanding data, the peer's window
open. -/
structure Unanswered (s : State) : Prop where
  active : s.conn.active = true
  noSegment : s.conn.segPend = false
  running : s.conn.tmrRunning = true
  outstanding : s.txInflight ≠ 0
  windowOpen : s.txWindow ≠ 0
  unacked : s.txAcked ≠ s.txNext

/-- The end past the retransmission limit, with the requests of R187 step 5. -/
structure GivenUp (limit : U32) (t : State) : Prop where
  tag : stateTag t = .reset
  count : t.retxCount.toNat = limit.toNat + 1
  flushReq : t.status.req.flushReq = true
  rstReq : t.status.req.rstReq = true
  streamErr : t.status.req.streamErr = true
  closedNow : t.status.req.closedNow = true
  noRetxReq : t.status.req.retxReq = false

/-- The host writes the current RTO to ARG0, as the time TICK is to let pass. -/
def dueTick (s : State) : State := { s with arg0 := s.tmrRto }

theorem expiringTicks_succ {s t : State} (h : exec .tick (dueTick s) = .next t) (n : Nat) :
    expiringTicks (n + 1) s = expiringTicks n t := by
  have h' : exec .tick { s with arg0 := s.tmrRto } = .next t := h
  rw [expiringTicks, h']

section
variable {s : State} (hs : Unanswered s)
include hs

/-- The time passed is at least the RTO, also where the sum saturates. -/
theorem Unanswered.fires : tickFires (dueTick s) = true := by
  have hrto := s.tmrRto.isLt
  have helapsed : (elapsedAfter (dueTick s)).toNat = min (s.tmrElapsed.toNat + s.tmrRto.toNat) (2 ^ 64 - 1) := by
    rw [elapsedAfter, if_pos (show (dueTick s).conn.tmrRunning = true from hs.running)]
    exact toNat_satAdd64 _ _
  have hle : (dueTick s).tmrRto.toNat ≤ (elapsedAfter (dueTick s)).toNat := by
    rw [helapsed]
    exact Nat.le_min.2 ⟨Nat.le_add_left _ _, by omega⟩
  rw [tickFires, decide_eq_true hle, Bool.and_true]
  exact hs.running

theorem Unanswered.resends : tickResends (dueTick s) = true := by
  rw [tickResends, hs.fires, Bool.true_and]
  exact bne_iff_ne.2 hs.outstanding

theorem Unanswered.counts : tickCounts (dueTick s) = true := by
  rw [tickCounts, hs.resends, Bool.true_and]
  exact bne_iff_ne.2 hs.windowOpen

theorem Unanswered.countAfterTick_eq (hfit : s.retxCount.toNat < 2 ^ 32 - 1) :
    (countAfterTick (dueTick s)).toNat = s.retxCount.toNat + 1 := by
  rw [countAfterTick, if_pos hs.counts, toNat_satAdd32]
  exact Nat.min_eq_left hfit

theorem Unanswered.not_closes : tickCloses (dueTick s) = false := by
  have hb : bothFinished (dueTick s) = false := by
    rw [← Bool.not_eq_true, bothFinished_iff]
    exact fun ⟨_, _, hacked⟩ => hs.unacked hacked
  exact closesCleanly_of_unfinished hb _ _

theorem Unanswered.tickCheck_eq : checkOf .tick (dueTick s) = none :=
  (tickCheck_eq_none _).2 ⟨hs.noSegment, hs.active⟩

/-- Within the limit the expiry counts one, doubles the RTO and leaves the data unanswered. -/
theorem Unanswered.tick_within (hlt : s.retxCount.toNat < s.cfgMaxRetx.toNat) :
    ∃ t, exec .tick (dueTick s) = .next t ∧ Unanswered t ∧ t.cfgMaxRetx = s.cfgMaxRetx ∧
      t.retxCount.toNat = s.retxCount.toNat + 1 ∧ t.tmrRto.toNat = min (2 * s.tmrRto.toNat) (2 ^ 64 - 1) := by
  have hmax := s.cfgMaxRetx.isLt
  have hcount := hs.countAfterTick_eq (by omega)
  have hpass : tickPasses (dueTick s) = false := decide_eq_false (by rw [hcount]; exact Nat.not_lt.2 hlt)
  obtain ⟨t, ht⟩ : ∃ t, exec .tick (dueTick s) = .next t := ⟨_, exec_form _ _⟩
  refine ⟨t, ht, ?_⟩
  cases effect_of_exec ht with
  | refused c hc => cases hs.tickCheck_eq.symm.trans hc
  | tick hp ha =>
    have hactive : ((dueTick s).conn.active && !tickPasses (dueTick s) && !tickCloses (dueTick s)) = true := by
      rw [ha, hpass, hs.not_closes]; rfl
    have hrunning : ((dueTick s).conn.tmrRunning &&
        !(tickFires (dueTick s) && (dueTick s).txInflight == 0)) = true := by
      have hne : ((dueTick s).txInflight == 0) = false := beq_eq_false_iff_ne.2 hs.outstanding
      rw [hne, Bool.and_false, Bool.not_false, Bool.and_true]
      exact hs.running
    have hrto : (if tickCounts (dueTick s) = true then satDbl64 (dueTick s).tmrRto else (dueTick s).tmrRto) =
        satDbl64 s.tmrRto := if_pos hs.counts
    exact ⟨⟨hactive, hp, hrunning, hs.outstanding, hs.windowOpen, hs.unacked⟩, rfl, hcount,
      (congrArg BitVec.toNat hrto).trans (toNat_satDbl64 _)⟩

/-- At the limit the expiry counts one more and ends the connection. -/
theorem Unanswered.tick_past (heq : s.retxCount.toNat = s.cfgMaxRetx.toNat)
    (hmax : s.cfgMaxRetx.toNat < 2 ^ 32 - 1) :
    ∃ t, exec .tick (dueTick s) = .next t ∧ GivenUp s.cfgMaxRetx t := by
  have hcount : (countAfterTick (dueTick s)).toNat = s.cfgMaxRetx.toNat + 1 := by
    rw [hs.countAfterTick_eq (heq ▸ hmax), heq]
  have hpast : s.cfgMaxRetx.toNat < (countAfterTick (dueTick s)).toNat := by omega
  have hpass : tickPasses (dueTick s) = true := decide_eq_true hpast
  obtain ⟨t, ht⟩ : ∃ t, exec .tick (dueTick s) = .next t := ⟨_, exec_form _ _⟩
  refine ⟨t, ht, ?_⟩
  cases effect_of_exec ht with
  | refused c hc => cases hs.tickCheck_eq.symm.trans hc
  | tick =>
    exact
      { tag := reset_of_tick ht rfl hpast
        count := hcount
        flushReq := hpass
        rstReq := hpass
        streamErr := hpass
        closedNow := by simp [hpass]
        noRetxReq := by simp [hpass] }

end

/-- Doubling a capped number and capping again is doubling and capping once. -/
theorem min_mul_min {c : Nat} (hc : 0 < c) (x m : Nat) : min (c * min x m) m = min (c * x) m := by
  rw [← Nat.mul_min_mul_left, Nat.min_assoc, Nat.min_eq_right (Nat.le_mul_of_pos_left m hc)]

theorem Unanswered.expiringTicks_within {s : State} (hs : Unanswered s) {k : Nat}
    (hk : s.retxCount.toNat + k ≤ s.cfgMaxRetx.toNat) :
    ∃ t, expiringTicks k s = .next t ∧ t.conn.active = true ∧ t.retxCount.toNat = s.retxCount.toNat + k ∧
      t.tmrRto.toNat = min (2 ^ k * s.tmrRto.toNat) (2 ^ 64 - 1) := by
  induction k generalizing s with
  | zero =>
    have hrto := s.tmrRto.isLt
    exact ⟨s, rfl, hs.active, rfl, by omega⟩
  | succ k ih =>
    obtain ⟨u, hu, hsu, hmax, hcount, hrto⟩ := hs.tick_within (by omega)
    obtain ⟨t, ht, ha, hcount', hrto'⟩ := ih hsu (by rw [hmax]; omega)
    refine ⟨t, (expiringTicks_succ hu k).trans ht, ha, by omega, ?_⟩
    rw [hrto', hrto, min_mul_min (Nat.two_pow_pos k), ← Nat.mul_assoc, ← Nat.pow_succ]

theorem Unanswered.expiringTicks_past {s : State} (hs : Unanswered s) {n : Nat}
    (hn : s.retxCount.toNat + n = s.cfgMaxRetx.toNat) (hmax : s.cfgMaxRetx.toNat < 2 ^ 32 - 1) :
    ∃ t, expiringTicks (n + 1) s = .next t ∧ GivenUp s.cfgMaxRetx t := by
  induction n generalizing s with
  | zero =>
    obtain ⟨t, ht, hup⟩ := hs.tick_past hn hmax
    exact ⟨t, expiringTicks_succ ht 0, hup⟩
  | succ n ih =>
    obtain ⟨u, hu, hsu, hlimit, hcount, -⟩ := hs.tick_within (by omega)
    obtain ⟨t, ht, hup⟩ := ih hsu (by rw [hlimit]; omega) (by rwa [hlimit])
    exact ⟨t, (expiringTicks_succ hu (n + 1)).trans ht, hlimit ▸ hup⟩

/-- Settles O50: by induction on the ticks, with `Unanswered` kept up to the limit. -/
theorem unansweredDataReachesTheLimit : Obligations.UnansweredDataReachesTheLimit := by
  intro s ha hp hrun hout hwin hack hle hmax
  have hs : Unanswered s := ⟨ha, hp, hrun, hout, hwin, hack⟩
  refine ⟨fun k hk => hs.expiringTicks_within (by omega), ?_⟩
  obtain ⟨t, ht, hup⟩ := hs.expiringTicks_past (Nat.add_sub_of_le hle) hmax
  exact ⟨t, ht, hup.tag, hup.count, hup.flushReq, hup.rstReq, hup.streamErr, hup.closedNow, hup.noRetxReq⟩

end Sys2Proof.Machine
end

section
/-! How a command ends (60_exceptions.md R220-R224): its completion code, the cause of each refusal, and that a refused
command changes nothing but STATUS. -/

namespace Sys2Proof.Machine

/-! A write of CMD (20_memory.md R63, 30_encoding.md R84). -/

/-- The step of a CMD write runs the decoded command, or ends with EOPC. -/
theorem step_cmdWrite_cases {s t : State} {v : U64} {rest : List HostAccess}
    (hq : s.hostQueue = .write 0x00 8 v :: rest) (h : step s = .next t) :
    (∃ i, decode (low32 v) = .ok i ∧ exec i { s with hostQueue := rest } = .next t) ∨
    (∃ e, decode (low32 v) = .error e ∧
      t = { s with hostQueue := rest, status := { code := .eopc, req := {} } }) := by
  rw [step_of_cons hq, performAccess_cmd] at h
  obtain ⟨i, hd, he⟩ | ⟨e, hd, he⟩ := issueCommand_cases v { s with hostQueue := rest } <;> rw [he] at h
  · exact .inl ⟨i, hd, h⟩
  · cases h
    exact .inr ⟨e, hd, rfl⟩

/-- A command that does not complete changes only STATUS, to its code with no request bit (R224). -/
theorem eq_withStatus_of_code_ne_ok {i : Instr} {s t : State} (h : exec i s = .next t)
    (hne : t.status.code ≠ .ok) : t = { s with status := { code := t.status.code, req := {} } } := by
  obtain ⟨c, -, rfl⟩ | ⟨-, rfl⟩ := exec_cases h
  · rfl
  · exact absurd rfl hne

/-- Settles O37: an illegal word and a refused command both rewrite STATUS alone, and the tag does not read STATUS. -/
theorem refusedCommandChangesOnlyStatus : Obligations.RefusedCommandChangesOnlyStatus := by
  intro s t v rest hq h hne
  have hframe : t = { s with hostQueue := rest, status := { code := t.status.code, req := {} } } := by
    obtain ⟨i, -, he⟩ | ⟨e, -, rfl⟩ := step_cmdWrite_cases hq h
    · exact eq_withStatus_of_code_ne_ok he hne
    · rfl
  have htag := congrArg stateTag hframe
  exact ⟨hframe, htag⟩

/-! The completion codes (R220): which commands raise each, and when. -/

/-- The code is that of the first failing check, and OK when all pass (R221). -/
theorem code_of_exec {i : Instr} {s t : State} (h : exec i s = .next t) :
    t.status.code = (checkOf i s).getD .ok := by
  obtain ⟨c, hc, rfl⟩ | ⟨hc, rfl⟩ := exec_cases h <;> rw [hc] <;> rfl

/-- The commands that check their operands or the host's report. -/
def operandCheckers : List Mnemonic := [.txSent, .txRetire, .rxStatus, .init]

/-- The commands that need a live connection. -/
def liveOnly : List Mnemonic := [.txSent, .txRetire, .txEof, .segRx, .tick, .eval]

/-- The commands refused while an inbound segment is pending. -/
def segmentBarred : List Mnemonic := [.segRx, .tick, .eval]

theorem segmentBarred_subset_liveOnly : segmentBarred ⊆ liveOnly := by decide

/-- The two-phase order of inbound segments is broken: a command that waits for SEG_END, or SEG_END without a
segment. -/
def BreaksSegmentOrder (i : Instr) (s : State) : Prop :=
  (i.mnemonic ∈ segmentBarred ∧ s.conn.segPend = true) ∨ (i.mnemonic = .segEnd ∧ s.conn.segPend = false)

/-- `RefusalCause i s c`: why command `i` can be refused with code `c` in state `s`. -/
inductive RefusalCause (i : Instr) (s : State) : Code → Prop where
  | operands (hm : i.mnemonic ∈ operandCheckers) : RefusalCause i s .einval
  | inactive (hm : i.mnemonic ∈ liveOnly) (ha : s.conn.active = false) : RefusalCause i s .einactive
  | segmentOrder (h : BreaksSegmentOrder i s) : RefusalCause i s .eseq

/-- TX_SENT and TX_RETIRE: EINACTIVE on an inactive connection, at most EINVAL on a live one. -/
theorem refusalCause_of_senderCheck {i : Instr} {s : State} {c : Code} (hlive : i.mnemonic ∈ liveOnly)
    (hops : i.mnemonic ∈ operandCheckers) (hinactive : s.conn.active = false → checkOf i s = some .einactive)
    (hactive : s.conn.active = true → checkOf i s = none ∨ checkOf i s = some .einval)
    (h : checkOf i s = some c) : RefusalCause i s c := by
  cases ha : s.conn.active with
  | false =>
    cases (hinactive ha).symm.trans h
    exact .inactive hlive ha
  | true =>
    obtain hc | hc := hactive ha <;> cases hc.symm.trans h
    exact .operands hops

/-- The check of SEG_RX, TICK and EVAL. -/
theorem refusalCause_of_segmentBarred {i : Instr} {s : State} {c : Code} (hm : i.mnemonic ∈ segmentBarred)
    (h : needNoSegment s (needActive s none) = some c) : RefusalCause i s c := by
  obtain ⟨hp, rfl⟩ | ⟨-, hrest⟩ := (needNoSegment_eq_some s c _).1 h
  · exact .segmentOrder (.inl ⟨hm, hp⟩)
  · obtain ⟨ha, rfl⟩ | ⟨-, hnone⟩ := (needActive_eq_some s c none).1 hrest
    · exact .inactive (segmentBarred_subset_liveOnly hm) ha
    · cases hnone

/-- Every refusal has one of the causes. -/
theorem refusalCause_of_check {i : Instr} {s : State} {c : Code} (h : checkOf i s = some c) :
    RefusalCause i s c := by
  cases i with
  | nop | wrap | unwrap | seglen | tmrStart | tmrStop | tmrReset | tmrDouble | tmrTick | tmrQuery | close | stamp =>
    cases h
  | txSent syn fin =>
    exact refusalCause_of_senderCheck (by simp [Instr.mnemonic, liveOnly])
      (by simp [Instr.mnemonic, operandCheckers]) (needActive_of_inactive · _) (txSentCheck_of_active syn fin) h
  | txRetire =>
    exact refusalCause_of_senderCheck (by decide) (by decide) (needActive_of_inactive · _) txRetireCheck_of_active h
  | txEof =>
    obtain ⟨ha, rfl⟩ | ⟨-, hnone⟩ := (needActive_eq_some s c none).1 h
    · exact .inactive (by decide) ha
    · cases hnone
  | rxStatus ended =>
    obtain hc | hc := rxStatusCheck_none_or_einval ended s <;> cases hc.symm.trans h
    exact .operands (by simp [Instr.mnemonic, operandCheckers])
  | segRx => exact refusalCause_of_segmentBarred (by simp [Instr.mnemonic, segmentBarred]) h
  | tick | eval => exact refusalCause_of_segmentBarred (by decide) h
  | segEnd =>
    obtain ⟨hp, rfl⟩ | ⟨-, hnone⟩ := (failIf_eq_some _ _ _ _).1 h
    · exact .segmentOrder (.inr ⟨rfl, by simpa using hp⟩)
    · cases hnone
  | init =>
    obtain ⟨-, rfl⟩ | ⟨-, hnone⟩ := (failIf_eq_some _ _ _ _).1 h
    · exact .operands (by decide)
    · cases hnone

/-- A command that does not complete has a cause for its code. -/
theorem refusalCause_of_exec {i : Instr} {s t : State} (h : exec i s = .next t) (hne : t.status.code ≠ .ok) :
    RefusalCause i s t.status.code := by
  obtain ⟨c, hc, rfl⟩ | ⟨-, rfl⟩ := exec_cases h
  · exact refusalCause_of_check hc
  · exact absurd rfl hne

/-- With no segment pending, a command that needs a live connection is refused on an inactive one. -/
theorem checkOf_of_inactive {i : Instr} {s : State} (hm : i.mnemonic ∈ liveOnly) (ha : s.conn.active = false)
    (hp : s.conn.segPend = false) : checkOf i s = some .einactive := by
  cases i with
  | txSent | txRetire | txEof => exact needActive_of_inactive ha _
  | segRx | tick | eval => exact needNoSegment_needActive_of_inactive hp ha _
  | _ => simp [Instr.mnemonic, liveOnly] at hm

/-- A command that breaks the order is refused for it, whatever else its state is. -/
theorem checkOf_of_segmentOrder {i : Instr} {s : State} (h : BreaksSegmentOrder i s) :
    checkOf i s = some .eseq := by
  obtain ⟨hm, hp⟩ | ⟨hm, hp⟩ := h
  · cases i with
    | segRx | tick | eval => exact needNoSegment_of_pending hp _
    | _ => simp [Instr.mnemonic, segmentBarred] at hm
  · cases i with
    | segEnd => exact (failIf_eq_some _ _ _ _).2 (.inl ⟨by rw [hp]; rfl, rfl⟩)
    | _ => cases hm

/-- A command with the name `m` ends somewhere with code `c`. -/
def Raises (m : Mnemonic) (c : Code) : Prop :=
  ∃ (i : Instr) (s t : State), i.mnemonic = m ∧ exec i s = .next t ∧ t.status.code = c

theorem raises_of_refused {i : Instr} {s : State} {c : Code} (h : checkOf i s = some c) : Raises i.mnemonic c :=
  ⟨i, s, _, rfl, exec_of_refused h, rfl⟩

theorem raises_ok_of_accepted {i : Instr} {s : State} (h : checkOf i s = none) : Raises i.mnemonic .ok :=
  ⟨i, s, _, rfl, exec_of_accepted h, rfl⟩

/-- On the connection after reset: nothing to send, more retired than is outstanding, an end of the stream before the
peer's SYN, and INIT of a live connection. -/
theorem raises_einval_of_operandCheckers {m : Mnemonic} (hm : m ∈ operandCheckers) : Raises m .einval := by
  simp only [operandCheckers, List.mem_cons, List.not_mem_nil, or_false] at hm
  obtain rfl | rfl | rfl | rfl := hm
  · exact raises_of_refused (i := .txSent false false) (s := State.reset) rfl
  · exact raises_of_refused (i := .txRetire) (s := { State.reset with arg0 := 1 }) rfl
  · exact raises_of_refused (i := .rxStatus true) (s := State.reset) rfl
  · exact raises_of_refused (i := .init) (s := State.reset) rfl

/-- The command of each row with FLAGS.S set where the row has that letter, so that TX_SENT sends a SYN. -/
def commandWithSyn (m : Mnemonic) : Instr := m.command 0x100

/-- The connection after reset accepts every command but the two that need a pending segment or an inactive
connection. -/
theorem reset_accepts {m : Mnemonic} (hend : m ≠ .segEnd) (hinit : m ≠ .init) :
    checkOf (commandWithSyn m) State.reset = none := by
  cases m with
  | segEnd => exact absurd rfl hend
  | init => exact absurd rfl hinit
  | _ => rfl

/-- Every command completes somewhere. -/
theorem raises_ok (m : Mnemonic) : Raises m .ok := by
  by_cases hend : m = .segEnd
  · subst hend
    exact raises_ok_of_accepted (i := .segEnd)
      (s := { State.reset with conn := { Conn.fresh with segPend := true } }) rfl
  · by_cases hinit : m = .init
    · subst hinit
      exact raises_ok_of_accepted (i := .init)
        (s := { State.reset with conn := { Conn.fresh with active := false } }) rfl
    · have h := raises_ok_of_accepted (reset_accepts hend hinit)
      rwa [commandWithSyn, mnemonic_command] at h

/-- EOPC is the code of a word that does not decode, and of no command. -/
theorem code_eq_eopc_iff {s t : State} {v : U64} {rest : List HostAccess}
    (hq : s.hostQueue = .write 0x00 8 v :: rest) (h : step s = .next t) :
    t.status.code = .eopc ↔ ∃ e, decode (low32 v) = .error e := by
  obtain ⟨i, hd, he⟩ | ⟨e, hd, rfl⟩ := step_cmdWrite_cases hq h
  · have hcode : t.status.code ≠ .eopc := fun hc => by
      have hcause := refusalCause_of_exec he (by rw [hc]; decide)
      rw [hc] at hcause
      cases hcause
    simp [hcode, hd]
  · simp [hd]

/-- Each code but OK and EOPC has only its own causes. -/
theorem cause_of_code {i : Instr} {s t : State} (h : exec i s = .next t) :
    (t.status.code = .einval → i.mnemonic ∈ operandCheckers) ∧
    (t.status.code = .einactive → i.mnemonic ∈ liveOnly ∧ s.conn.active = false) ∧
    (t.status.code = .eseq → BreaksSegmentOrder i s) := by
  have hcause : ∀ c, t.status.code = c → c ≠ .ok → RefusalCause i s c := by
    rintro c rfl hne
    exact refusalCause_of_exec h hne
  refine ⟨fun hc => ?einval, fun hc => ?einactive, fun hc => ?eseq⟩
  case einval =>
    cases hcause _ hc (by decide) with
    | operands hm => exact hm
  case einactive =>
    cases hcause _ hc (by decide) with
    | inactive hm ha => exact ⟨hm, ha⟩
  case eseq =>
    cases hcause _ hc (by decide) with
    | segmentOrder horder => exact horder

/-- Settles O38: the code is that of the first failing check (`code_of_exec`), and the checks have the causes of
`RefusalCause` only. -/
theorem completionCodes : Obligations.CompletionCodes := by
  refine ⟨fun s => ?value, fun s t v rest => code_eq_eopc_iff, fun i s t => cause_of_code,
    fun m => raises_einval_of_operandCheckers, fun i s t hm ha hp h => ?einactive, fun i s t horder h => ?eseq,
    raises_ok⟩
  case value =>
    rw [statusWord_code]
    cases s.status.code <;> rfl
  case einactive => rw [code_of_exec h, checkOf_of_inactive hm ha hp, Option.getD_some]
  case eseq => rw [code_of_exec h, checkOf_of_segmentOrder horder, Option.getD_some]

end Sys2Proof.Machine
end

section
/-! An inactive connection until INIT (60_exceptions.md R223): what its commands can still change. -/

namespace Sys2Proof.Machine

/-- The tag of an inactive connection reads ERR alone. -/
theorem stateTag_eq_of_inactive {s t : State} (ha : s.conn.active = false) (hactive : t.conn.active = s.conn.active)
    (herr : t.conn.err = s.conn.err) : stateTag t = stateTag s := by
  rw [stateTag_of_inactive ha, stateTag_of_inactive (hactive.trans ha), herr]

/-- Settles O42: of the effects on an inactive connection, SEG_END's is excluded by the invariants (no segment is
pending), and the others write no register named and no flag but RX_ENDED, TMR_RUNNING and TXD. -/
theorem inactiveConnectionIsTerminal : Obligations.InactiveConnectionIsTerminal := by
  intro i s t hi ha hne h
  cases effect_of_exec h with
  | refused | nop | wrap | unwrap | seglen | tmrStart | tmrStop | tmrReset | tmrDouble | tmrTick | tmrQuery | rxStatus
  | closeInactive | stamp => exact ⟨rfl, stateTag_eq_of_inactive ha rfl rfl, by simp⟩
  | segRxReset hp hlive | segRxDiscarded hp hlive | segRxProcessed hp hlive | txRetire hlive | txEof hlive
  | txSent hlen hlive | tick hp hlive | eval hp hlive | closeActive hlive =>
    exact absurd hlive (Bool.eq_false_iff.1 ha)
  | segEnd hp => exact absurd (hi.pendingActive hp) (Bool.eq_false_iff.1 ha)
  | init => exact absurd rfl hne

end Sys2Proof.Machine
end

section
/-! Reset and idling (70_reset_and_hazards.md R251, R252): INIT against the power-on state, and the step without a host
access. -/

namespace Sys2Proof.Machine

/-- Settles O7: with nothing in the host's queue there is no access to take. -/
theorem blockIdlesWithoutAccess : Obligations.BlockIdlesWithoutAccess := fun _ => step_of_empty

/-- The power-on state but for TMR_RTO, the CFG, ARG and RES registers and the host's side of the window (R251). -/
def State.reinit (s : State) : State :=
  { State.reset with
    arg0 := s.arg0, arg1 := s.arg1, arg2 := s.arg2, res0 := s.res0, res1 := s.res1, res2 := s.res2
    cfgRtoInit := s.cfgRtoInit, cfgMaxRetx := s.cfgMaxRetx, cfgCapacity := s.cfgCapacity, cfgTxIsn := s.cfgTxIsn
    tmrRto := s.cfgRtoInit.setWidth 64, hostQueue := s.hostQueue, readData := s.readData }

/-- The registers INIT writes (R190) are those it does not keep, and it gives them their power-on values. -/
theorem exec_init_of_inactive {s : State} (ha : s.conn.active = false) : exec .init s = .next s.reinit :=
  (initOutcome.2 s).2 ha

/-- STATUS reads CODE, the request bits, CONN, TX_ACKED and TX_NEXT, all of them as after power-on. -/
theorem statusWord_reinit (s : State) : statusWord s.reinit = statusWord State.reset := rfl

/-- Settles O36: INIT's writes are the power-on values (`exec_init_of_inactive`), STATUS among them, and on a live
connection INIT is refused (O35). -/
theorem initRestoresPowerOnState : Obligations.InitRestoresPowerOnState := by
  refine fun s => ⟨exec_init_of_inactive, fun t h ha => ?status, (initOutcome.2 s).1⟩
  case status =>
    obtain rfl : s.reinit = t := by simpa [exec_init_of_inactive ha] using h
    exact ⟨(statusWord_reinit s).trans statusWord_reset, statusWord_reset⟩

end Sys2Proof.Machine
end
